-- ==== Sys2Proof/Word.lean ====
section
/-! DEFINITION. The word types of the part: bytes, upstream addresses, check codes, and the sizes of the array
(spec/00_scope.md, "Principal figures" and "Conventions"). -/

namespace Sys2Proof

/-- One byte of data: of a page, of the upstream bus, of a link message. -/
abbrev Byte := BitVec 8

/-- A byte address on UA[19:0] (00_scope, "Addresses"). -/
abbrev Address := BitVec 20

/-- A 7-bit address of the two-wire bus (R160). -/
abbrev LinkAddress := BitVec 7

/-- A 32-bit check code, or the register in which one is taken (R178). -/
abbrev CheckWord := BitVec 32

/-- The 64 bytes of a page, offset 0 first. -/
abbrev PageBytes := List Byte

end Sys2Proof
end

