-- ==== Sys2Proof/Config.lean ====
section
/-! DEFINITION. What is fixed for the part (its capacities and fixed times, spec/00_scope.md and the rules named
below) and the free values: constants without a body, which no proof can evaluate. Times are in units of 100 µs. -/

namespace Sys2Proof.Config

/-- Bytes in a page (00_scope). -/
def pageSize : Nat := 64
/-- Pages in the array (00_scope). -/
def arrayPages : Nat := 16384
/-- The page of configuration copy A (R81). -/
def copyAPage : Nat := 16382
/-- The page of configuration copy B (R81). -/
def copyBPage : Nat := 16383
/-- Entries of the group table (R2). -/
def tableSize : Nat := 8
/-- Staging lines (R26). -/
def lineCount : Nat := 32
/-- Entries of the outcome queue (R23). -/
def queueSize : Nat := 16
/-- The largest number of lines of a group or record (R13, R47). -/
def maxGroupLines : Nat := 22
/-- Attempts of one program (R103). -/
def maxAttempts : Nat := 3
/-- Where the fairness count stops (R112). -/
def fairnessLimit : Nat := 8
/-- Where a counter stops: 2^32 - 1 (R168). -/
def counterMax : Nat := 4294967295
/-- The exhausted value of the next sequence: 2^48 - 1 (R4). -/
def sequenceExhausted : Nat := 281474976710655
/-- Data bytes a write transaction may carry (R160). -/
def maxWriteBytes : Nat := 50
/-- Argument bytes of STORE (R161). -/
def storeBytes : Nat := 49
/-- The fixed wake time of a start-up, 20 ms (R81). -/
def startUpWakeTime : Nat := 200
/-- The PFI debounce, 1 ms (R130). -/
def debounceTime : Nat := 10
/-- The program time limit while no configuration is active, 50 ms (R81, R84). -/
def bareProgramLimit : Nat := 500
/-- The wait limit in BARE, 100 ms (R84). -/
def bareWaitLimit : Nat := 1000
/-- The array wake time in BARE, 20 ms (R84). -/
def bareWakeTime : Nat := 200
/-- The fill value (00_scope). -/
def fillByte : Byte := 0xFF#8
/-- What a byte of the array that nothing has written reads as. DESIGN CHOICE, unsafe: log 3. -/
def blankByte : Byte := 0xFF#8
/-- The lowest of the four link addresses (R160). -/
def linkBase : LinkAddress := 0x2C#7

/-- FREE VALUE (log 4): the byte at an offset of a page whose bytes are undefined (torn, or left by a program
that failed). The first argument is the index the page was given when it became undefined. -/
opaque freeByte : Nat → Nat → Byte

end Sys2Proof.Config
end

