-- ==== Sys2Proof/Syntax.lean ====
section
/-! DEFINITION. The commands of the part: one constructor for each row of spec/opcode_table.json, in the table's
order. The table gives the rows no fields; the operands are what the row's rule takes from outside the part
(log 10). -/

namespace Sys2Proof

/-- The events the part takes, each whole and indivisible (spec/95_what_each_step_holds.md). -/
inductive Instr
  /-- POWER_ON (R76): the supply reaches its operating level with RST# high. -/
  | powerOn
  /-- SUPPLY_BELOW_OPERATING_LEVEL (R139). -/
  | supplyBelowOperatingLevel
  /-- RST_FALL (R78). -/
  | rstFall
  /-- RST_RISE (R76). -/
  | rstRise
  /-- SUPPLY_WARNING (R131): a fall of PFI. -/
  | supplyWarning
  /-- PFI_RISE (R130). -/
  | pfiRise
  /-- PFI_DEBOUNCE_EXPIRY (R130). -/
  | pfiDebounceExpiry
  /-- GRP_ASSERTION (R6): a falling edge of GRP#. -/
  | grpAssertion
  /-- GRP_RELEASE (R14): a rising edge of GRP#, with the level of DSC at that edge. -/
  | grpRelease (dsc : Bool)
  /-- UCS_ASSERTION (R115). -/
  | ucsAssertion
  /-- UPSTREAM_WRITE (R118): the write strobe, with UA and UD. -/
  | upstreamWrite (address : Address) (data : Byte)
  /-- UPSTREAM_READ (R123): the read strobe, with UA. -/
  | upstreamRead (address : Address)
  /-- UCS_RELEASE_WITHOUT_STROBE (R115). -/
  | ucsReleaseWithoutStrobe
  /-- ACCESS_ABANDONED (R122). -/
  | accessAbandoned
  /-- WAIT_LIMIT_EXPIRY (R121). -/
  | waitLimitExpiry
  /-- AMBIENT_IDLE_EXPIRY (R20). -/
  | ambientIdleExpiry
  /-- DOZE_IDLE_EXPIRY (R141). -/
  | dozeIdleExpiry
  /-- DOZE_ENTRY (R142). -/
  | dozeEntry
  /-- WAKE_TIMER_EXPIRY (R109). -/
  | wakeTimerExpiry
  /-- HOLD_UP_BUDGET_EXPIRY (R133). -/
  | holdUpBudgetExpiry
  /-- OPERATION_TIMER_EXPIRY (R100). -/
  | operationTimerExpiry
  /-- READY_CHECK_PASS (R100). `failed` is how a program still running in the device from before ended. -/
  | readyCheckPass (failed : Bool)
  /-- PAGE_READ_END (R101). -/
  | pageReadEnd
  /-- PROGRAM_ATTEMPT_END (R102), with the fail indication of the STATUS that shows busy clear. -/
  | programAttemptEnd (failed : Bool)
  /-- OUTCOME_PULSE (R25). -/
  | outcomePulse
  /-- CACK_RISE (R25). -/
  | cackRise
  /-- CACK_FALL (R25). -/
  | cackFall
  /-- LINK_WRITE_TRANSACTION_END (R161), with the address and the data bytes. A write transaction that began while the
  response was PENDING has had no byte acknowledged: its end is LINK_TRANSACTION_END (log 10). -/
  | linkWriteTransactionEnd (address : LinkAddress) (bytes : List Byte)
  /-- REPORT (R163). -/
  | report
  /-- CLEAR (R167), with its two argument bytes. -/
  | clear (flagMask : Byte) (countersOption : Byte)
  /-- SEAL (R169). -/
  | seal
  /-- RESUME (R154). -/
  | resume
  /-- RESTART (R170). -/
  | restart
  /-- STORE (R171), with its argument bytes. -/
  | store (fields : List Byte)
  /-- READ_CONFIG (R164). -/
  | readConfig
  /-- UNKNOWN (R161), with the bytes of the write transaction. -/
  | unknown (bytes : List Byte)
  /-- LINK_TRANSACTION_END (R160), with the address: the end of a read, or of a write without an acknowledged byte. -/
  | linkTransactionEnd (address : LinkAddress)
  /-- SUPPLY_APPLIED_IN_RESET (R78). -/
  | supplyAppliedInReset
  deriving DecidableEq, Repr

end Sys2Proof
end

