-- ==== Sys2Proof/WellFormed.lean ====
section
/-! DEFINITION. Which commands are well formed: the conditions the rules put on their operands. The table's other
rows have no operand that could be wrong. -/

namespace Sys2Proof

/-- The number of data bytes a command code asks for after it (R161, 11_formats "Link Messages"); none for a code
that names no command. -/
def argumentCount (code : Byte) : Option Nat :=
  if code = 0x10#8 then some 0
  else if code = 0x20#8 then some 2
  else if code = 0x30#8 then some 0
  else if code = 0x40#8 then some 0
  else if code = 0x50#8 then some 0
  else if code = 0x60#8 then some Config.storeBytes
  else if code = 0x70#8 then some 0
  else none

/-- The bytes of a write transaction name a command and carry that command's count of arguments (R161). -/
def namesCommand : List Byte → Bool
  | [] => false
  | code :: arguments => argumentCount code == some arguments.length

/-- Well-formed operands: STORE carries 49 bytes (R161), a write transaction at least one (R161), and the bytes
answered UNKNOWN are at least one and name no command with its count (R161). -/
def Instr.wellFormed : Instr → Bool
  | .store fields => fields.length == Config.storeBytes
  | .linkWriteTransactionEnd _ bytes => !bytes.isEmpty
  | .unknown bytes => !bytes.isEmpty && !namesCommand bytes
  | .powerOn | .supplyBelowOperatingLevel | .rstFall | .rstRise | .supplyWarning | .pfiRise | .pfiDebounceExpiry
  | .supplyAppliedInReset | .grpAssertion | .grpRelease _ | .ucsAssertion | .upstreamWrite _ _ | .upstreamRead _
  | .ucsReleaseWithoutStrobe | .accessAbandoned | .waitLimitExpiry | .ambientIdleExpiry | .dozeIdleExpiry
  | .dozeEntry | .wakeTimerExpiry | .holdUpBudgetExpiry | .operationTimerExpiry | .readyCheckPass _ | .pageReadEnd
  | .programAttemptEnd _ | .outcomePulse | .cackRise | .cackFall | .report | .clear _ _ | .seal | .resume | .restart
  | .readConfig | .linkTransactionEnd _ => true

end Sys2Proof
end

