-- ==== Sys2Proof/Decode.lean ====
section
/-! DEFINITION. The commands the table's bits spell: none. No row of spec/opcode_table.json gives bits ("fields" is
empty in every row and none has "fixed"), so no word spells a command. -/

namespace Sys2Proof

/-- The command a word of `nbits` bits spells by the table: none, since no row gives bits. -/
def decodeTableWord (_nbits _w : Nat) : Option Instr := none

end Sys2Proof
end

