-- ==== Sys2Proof/Machine/State.lean ====
section
/-! DEFINITION. The state of the part, as plain data: every register, queue, timer, mode and pin the spec names
(INVENTORY.md, "State"), the array behind the part (R97), and the queue of commands that wait. -/

namespace Sys2Proof.Machine

/-- No command stops the part: the spec gives every event an effect, and the part's own faults (R147, R148) are
states. So there is nothing to raise, and a stop here would be a gap in the model. -/
inductive Fault
  deriving DecidableEq, Repr

/-- Why a command is turned away without an effect. -/
inductive Refusal
  /-- Raised by an arm of `exec` whose command has no meaning yet: none. Safe: the model stops where the part goes
  on. -/
  | notModelled (mnemonic : String)
  deriving DecidableEq, Repr

/-- A timer of the part (00_scope, "Times"): stopped, running with the time left in units of 100 µs, or expired. -/
inductive Timer
  | stopped
  | running (left : Nat)
  | expired
  deriving DecidableEq, Repr

/-- The eight operating modes (00_scope). In reset and without supply the part is in none of them. -/
inductive Mode
  | starting | bare | running | dozing | draining | halted | holdup | down
  deriving DecidableEq, Repr

/-- The inputs whose level the part follows. A Bool is the level of the line: true is high. -/
structure Pins where
  /-- The supply is at its operating level (R76). -/
  supply : Bool
  /-- RST# (R78). -/
  rst : Bool
  /-- PFI (R130). -/
  pfi : Bool
  /-- GRP# (R1). -/
  grp : Bool
  /-- The LAD[1:0] strap (R160). -/
  lad : BitVec 2
  deriving DecidableEq, Repr

/-! ### The upstream port -/

/-- Why a write is refused (R119). -/
inductive RefusalReason
  | reservedPage | protectedPage | mode | group | expired
  deriving DecidableEq, Repr

/-- The result of an upstream access (R115). -/
inductive AccessResult
  /-- A read completed with this byte. -/
  | byte (data : Byte)
  /-- A write was staged. -/
  | staged
  /-- A write was refused. -/
  | refused (reason : RefusalReason)
  /-- A held read was abandoned by the host: it ended with the fill value, which is on no bus any more (R115, R122). -/
  | abandoned
  /-- The access ended without an effect: no strobe, or cut off by DOWN or reset. -/
  | withoutEffect
  deriving DecidableEq, Repr

/-- What a held write waits for (R120). -/
inductive WriteWait
  /-- A free line, for the group with this sequence (R31). -/
  | line (group : Nat)
  /-- The opening of the deferred group (R7). -/
  | opening
  /-- A table entry in which to create the ambient group (R19). -/
  | entry
  deriving DecidableEq, Repr

/-- Where an upstream access stands. -/
inductive AccessStage
  /-- UCS# is asserted and no strobe has come. -/
  | begun
  /-- A write, held on UWAIT (R120). -/
  | heldWrite (page offset : Nat) (data : Byte) (wait : WriteWait)
  /-- A read, held on UWAIT for its array read; `granted` once the arbiter has granted that read (R121). -/
  | heldRead (page offset : Nat) (granted : Bool)
  deriving DecidableEq, Repr

/-- The access in progress (R115). `explicit` was fixed by the level of GRP# at the assertion of UCS# (R1). -/
structure Access where
  explicit : Bool
  stage : AccessStage
  deriving DecidableEq, Repr

/-- The read buffer's content while it is valid (R125). -/
structure ReadBuffer where
  page : Nat
  data : PageBytes
  deriving DecidableEq, Repr

/-- State of the upstream port (07_the_upstream_bus). -/
structure Upstream where
  access : Option Access
  /-- The result of the last access, from its completion to the next assertion of UCS# (log 23). -/
  result : Option AccessResult
  waitTimer : Timer
  /-- Absent while the read buffer is invalid. -/
  buffer : Option ReadBuffer
  deriving DecidableEq, Repr

/-! ### The group controller and the line store -/

inductive GroupKind
  | explicit | ambient
  deriving DecidableEq, Repr

inductive GroupState
  | opened | gathering | sealed | journaling | durable | applying | lost
  deriving DecidableEq, Repr

/-- A group table entry in use (R2). Its line count and line list are computed from the lines (R27, log 21), its
outcome reference from the outcome queue (log 22). -/
structure Group where
  sequence : Nat
  kind : GroupKind
  state : GroupState
  deriving DecidableEq, Repr

/-- The current explicit group record (R5): the status, with the reference to the table entry where it has one. -/
inductive Current
  | none
  | opened (group : Nat)
  | deferred
  | refused
  | lost (group : Option Nat)
  deriving DecidableEq, Repr

/-- A GRP# edge noted until the write in progress completes (R14). -/
inductive Edge
  | assertion
  | release (dsc : Bool)
  deriving DecidableEq, Repr

/-- State of the group controller (01_commit_groups). -/
structure Groups where
  /-- The entries in use, in the order of their creation, which is ascending sequence (R4). -/
  table : List Group
  nextSequence : Nat
  current : Current
  /-- The explicit group of an assertion that came during a loose write is still to be opened (R6). -/
  openingWaits : Bool
  /-- A seal of the ambient group waits for a loose write in progress (R6, R21). -/
  sealWaits : Bool
  noted : List Edge
  idleTimer : Timer
  deriving DecidableEq, Repr

/-- A staging line in use (02_staging_lines). A byte is `some` where its mask entry is set. -/
structure Line where
  /-- The sequence of the group that owns the line. -/
  owner : Nat
  page : Nat
  bytes : List (Option Byte)
  deriving DecidableEq, Repr

/-! ### The journal and apply engines -/

/-- Where the record in progress stands (03_the_journal, "Writing a Record"). -/
inductive Position
  | header
  | complete (k : Nat)
  | program (k : Nat)
  | commit
  deriving DecidableEq, Repr

/-- The record in progress (R51). -/
structure Record where
  group : Nat
  firstPage : Nat
  position : Position
  pagesDone : Nat
  header : PageBytes
  /-- The running record check: the check register before its final XOR (R178). -/
  check : CheckWord
  deriving DecidableEq, Repr

/-- State of the journal engine (R44, R46, R51, R62). -/
structure Journal where
  head : Nat
  tail : Nat
  inUse : Nat
  retired : Nat
  durable : Nat
  record : Option Record
  /-- A group has been declined in this HOLDUP (R62). -/
  declined : Bool
  /-- A journal operation has failed in this HOLDUP (R135). -/
  stopped : Bool
  deriving DecidableEq, Repr

/-- The apply cursor while it is present (R64). -/
structure Cursor where
  group : Nat
  line : Nat
  deriving DecidableEq, Repr

/-! ### The array controller and the array -/

inductive PowerState
  | off | waking | on
  deriving DecidableEq, Repr

/-- Who asks for an operation of the array (R98). -/
inductive Requester
  | readPath | journal | apply | startUp | link
  deriving DecidableEq, Repr

inductive OpKind
  | pageRead | pageProgram
  deriving DecidableEq, Repr

/-- Where the operation in flight stands. The first and the last are passed through within one command. -/
inductive OpPhase
  /-- The read, or the next attempt of the program, is about to make its ready check. -/
  | start
  /-- The ready check has found busy set and polls STATUS (R100). -/
  | readyCheck
  /-- PAGE READ, or PAGE PROGRAM, has been sent (R101, R102). -/
  | transfer
  /-- The attempt has failed (R103). -/
  | failed
  deriving DecidableEq, Repr

/-- An operation in flight (R98). -/
structure Operation where
  requester : Requester
  kind : OpKind
  page : Nat
  /-- For a program, the 64 bytes; none for a read. They are taken at the grant and stay the same at each attempt,
  since a requester's bytes do not change while its request stands (R34, R47, R58; log 35). -/
  data : PageBytes
  attempts : Nat
  phase : OpPhase
  deriving DecidableEq, Repr

/-- State of the array controller (06_the_array_port). -/
structure Port where
  power : PowerState
  apwr : Bool
  wakeTimer : Timer
  inFlight : Option Operation
  /-- The program between two attempts while a host read runs in the read slot (R104). -/
  suspended : Option Operation
  opTimer : Timer
  fairness : Nat
  deriving DecidableEq, Repr

/-- A page program under way in the device: busy is set exactly while there is one (R97). -/
structure DeviceProgram where
  page : Nat
  data : PageBytes
  /-- It ended with ARRAY_TIMEOUT for the part, and what its page holds is unknown from then on (R102, log 42). -/
  overrun : Bool
  deriving DecidableEq, Repr

/-- How a faulty device departs from a sound one in one STATUS answer (log 8). -/
structure StatusFault where
  /-- Busy shows set although no program is under way. -/
  busy : Bool
  /-- The latch shows clear although LATCH was sent. -/
  latchClear : Bool
  deriving DecidableEq, Repr

/-- The array device (R97). -/
structure Device where
  /-- The bytes of the array, in canonical form (`Memory.wf`). -/
  cells : List Host.Cell
  /-- The pages whose bytes are undefined, ascending, each with the index of its free value. -/
  undefinedPages : List (Nat × Nat)
  program : Option DeviceProgram
  latch : Bool
  fail : Bool
  /-- The faulty STATUS answers the device will give at its next checks; none: it answers soundly. -/
  statusFaults : List StatusFault
  deriving DecidableEq, Repr

/-! ### The power monitor and the outcome unit -/

/-- State of the power monitor (R130, R133, R141). -/
structure Monitor where
  debounce : Timer
  settled : Bool
  holdUp : Timer
  dozeIdle : Timer
  deriving DecidableEq, Repr

inductive OutcomeResult
  | pending | durable | lost
  deriving DecidableEq, Repr

/-- What an outcome entry refers to (log 22). -/
inductive OutcomeOwner
  /-- The table entry with this sequence. -/
  | group (sequence : Nat)
  /-- The current explicit group, which has no table entry of its own. -/
  | current
  /-- Nothing any more: the result is known and the reference was dropped. -/
  | dropped
  deriving DecidableEq, Repr

/-- An entry of the outcome queue (R23). -/
structure OutcomeEntry where
  result : OutcomeResult
  owner : OutcomeOwner
  deriving DecidableEq, Repr

/-- The outcome pulse (R25). -/
inductive Pulse
  /-- CACK and CRES low. -/
  | idle
  /-- CRES driven to the result, CACK low. -/
  | setup (durable : Bool)
  /-- CACK high. -/
  | high (durable : Bool)
  deriving DecidableEq, Repr

/-- State of the outcome unit (R23, R25). -/
structure Outcomes where
  /-- Oldest first. -/
  queue : List OutcomeEntry
  pulse : Pulse
  deriving DecidableEq, Repr

/-! ### The link unit -/

/-- The status values of a response (R161). -/
inductive Status
  | done | pending | refusedMode | refusedBusy | refusedField | refusedOverlap | nothing | unknown
  deriving DecidableEq, Repr

/-- The response buffer (R160, R161). -/
structure Response where
  status : Status
  data : List Byte
  deriving DecidableEq, Repr

/-- The six event flags (R165). -/
structure EventFlags where
  refused : Bool
  lost : Bool
  unserved : Bool
  started : Bool
  storeFailed : Bool
  dropped : Bool
  deriving DecidableEq, Repr

/-- The nine counters (R168). -/
structure Counters where
  writesStaged : Nat
  writesRefused : Nat
  groupsDurable : Nat
  groupsLost : Nat
  readsUnserved : Nat
  programRetries : Nat
  stallExpiries : Nat
  earlyAccesses : Nat
  outcomesDropped : Nat
  deriving DecidableEq, Repr

/-- The result of a configuration store (R95, R159). -/
inductive StoreResult
  | none | stored | formatFailed | copyFailed
  deriving DecidableEq, Repr

/-- The phase of a drain. -/
inductive DrainPhase
  | drain
  /-- The format, with the next page of the new region to format (R175). -/
  | format (page : Nat)
  | copy
  deriving DecidableEq, Repr

/-- The drain record (10_the_maintenance_link, "Restart and Store"). -/
inductive Drain
  | none
  | restart
  /-- The 49 bytes of the STORE as validated, and the phase. -/
  | store (fields : List Byte) (phase : DrainPhase)
  deriving DecidableEq, Repr

/-- A command that has been taken and not yet decided (R161), with what counts at the taking (R154, R162). -/
structure Taken where
  /-- The bytes of its write transaction. -/
  bytes : List Byte
  /-- The mode when it was taken; of a waking command, the mode after the wake (R162). -/
  mode : Mode
  /-- A RESUME retry was under way when it was taken (R154). -/
  retrying : Bool
  deriving DecidableEq, Repr

/-- State of the link unit (10_the_maintenance_link). -/
structure Link where
  address : LinkAddress
  /-- The command taken and not yet decided (R161). -/
  taken : Option Taken
  response : Response
  flags : EventFlags
  counters : Counters
  drain : Drain
  deriving DecidableEq, Repr

/-! ### The mode controller and the start-up unit -/

inductive FaultKind
  | journalFail | applyFail | replayFail | arrayTimeout
  deriving DecidableEq, Repr

/-- The fault record while it is not empty (R147). -/
structure FaultRecord where
  kind : FaultKind
  operation : OpKind
  page : Nat
  sequence : Nat
  deriving DecidableEq, Repr

/-- The owner of the failed operation (R147). -/
inductive RetryOwner
  | journal | apply | startUp
  deriving DecidableEq, Repr

/-- State of the mode controller. -/
structure Control where
  /-- None in reset and without supply (R78). -/
  mode : Option Mode
  fault : Option FaultRecord
  retryOwner : Option RetryOwner
  /-- A RESUME retry is under way (R154). -/
  retrying : Bool
  deriving DecidableEq, Repr

/-- The causes of a start-up (R76). -/
inductive Cause
  | powerOn | resetLine | supplyRecovery | restart | store
  deriving DecidableEq, Repr

inductive Copy
  | none | a | b
  deriving DecidableEq, Repr

/-- The start-up record (R95). -/
structure StartUpRecord where
  cause : Cause
  copy : Copy
  generation : Nat
  validHeaders : Nat
  replayed : Nat
  skipped : Nat
  incomplete : Nat
  programmed : Nat
  cutOff : Nat
  storeResult : StoreResult
  deriving DecidableEq, Repr

/-- A valid header the scan found (R85) and what its record was judged to be (R86). -/
structure FoundHeader where
  page : Nat
  sequence : Nat
  lines : Nat
  retiredThrough : Nat
  pages : List Nat
  /-- The check register taken over the 64 header bytes. -/
  check : CheckWord
  /-- Absent until the record's remaining pages have been read. -/
  complete : Option Bool
  deriving DecidableEq, Repr

/-- The step a start-up has reached (R80 to R88). -/
inductive BootStep
  /-- No start-up under way. -/
  | idle
  /-- Waiting for a settled PFI (R80). -/
  | pfiWait
  /-- The fixed 20 ms wake (R81). -/
  | waking
  | readCopyA
  /-- Reading copy B; the image of copy A if it is valid. -/
  | readCopyB (copyA : Option PageBytes)
  /-- Reading page k of the journal region, counted from 0 (R85). -/
  | scan (k : Nat)
  /-- Reading page j of the record of the i-th header found, with the check register so far (R86). -/
  | judge (i j : Nat) (check : CheckWord)
  /-- Reading image k of the record at the front of the records to replay (R88). -/
  | replayRead (k : Nat)
  /-- Programming that image home. -/
  | replayProgram (k : Nat) (image : PageBytes)
  deriving DecidableEq, Repr

/-- State of the start-up unit (05_start_up_and_replay). -/
structure Boot where
  record : Option StartUpRecord
  step : BootStep
  /-- The valid headers in the order the scan found them. -/
  headers : List FoundHeader
  /-- The records still to be replayed, ascending in sequence. -/
  toReplay : List FoundHeader
  /-- The 64-byte image of the active configuration (R83). -/
  active : Option PageBytes
  /-- A start-up has begun since the supply was applied (R76). -/
  startedSinceSupply : Bool
  deriving DecidableEq, Repr

/-- The state of the part, of the array behind it, and of the queue of waiting commands. -/
structure State where
  pins : Pins
  control : Control
  upstream : Upstream
  groups : Groups
  /-- The lines in use, ascending by owner and then by page. -/
  lines : List Line
  journal : Journal
  cursor : Option Cursor
  port : Port
  device : Device
  monitor : Monitor
  outcomes : Outcomes
  link : Link
  boot : Boot
  /-- The model's own: the index of the next free value (log 5). -/
  freeCount : Nat
  /-- The commands that wait, first in first out. -/
  pending : List Instr
  deriving DecidableEq, Repr

/-! ### Start values (R77) and reset (R78) -/

/-- The upstream port's start values (R77). -/
def Upstream.start : Upstream :=
  { access := none, result := none, waitTimer := .stopped, buffer := none }

/-- The group controller's start values (R77). The next sequence has none until the end of the start-up: 0, DESIGN
CHOICE (log 14). -/
def Groups.start : Groups :=
  { table := [], nextSequence := 0, current := .none, openingWaits := false, sealWaits := false, noted := [],
    idleTimer := .stopped }

/-- The journal engine's start values (R44, R46, R77). The pointers have no effect; 0, DESIGN CHOICE (log 14). -/
def Journal.start : Journal :=
  { head := 0, tail := 0, inUse := 0, retired := 0, durable := 0, record := none, declined := false,
    stopped := false }

/-- The array controller while RST# is low (R78, R110). -/
def Port.start : Port :=
  { power := .off, apwr := false, wakeTimer := .stopped, inFlight := none, suspended := none, opTimer := .stopped,
    fairness := 0 }

/-- The outcome unit's start values (R23, R25). -/
def Outcomes.start : Outcomes := { queue := [], pulse := .idle }

/-- All event flags clear (R77). -/
def EventFlags.clear : EventFlags :=
  { refused := false, lost := false, unserved := false, started := false, storeFailed := false, dropped := false }

/-- All counters 0 (R77). -/
def Counters.zero : Counters :=
  { writesStaged := 0, writesRefused := 0, groupsDurable := 0, groupsLost := 0, readsUnserved := 0,
    programRetries := 0, stallExpiries := 0, earlyAccesses := 0, outcomesDropped := 0 }

/-- The response buffer that holds NOTHING (R161). -/
def Response.nothing : Response := { status := .nothing, data := [] }

/-- The link unit's start values (R77, R161), with the link address given. -/
def Link.start (address : LinkAddress) : Link :=
  { address := address, taken := none, response := .nothing, flags := .clear, counters := .zero, drain := .none }

/-- The mode controller in reset (R78). -/
def Control.start : Control := { mode := none, fault := none, retryOwner := none, retrying := false }

/-- The start-up unit in reset (R78): no record is opened and no work is done. -/
def Boot.start (startedSinceSupply : Bool) : Boot :=
  { record := none, step := .idle, headers := [], toReplay := [], active := none,
    startedSinceSupply := startedSinceSupply }

/-- The array as the part first finds it: nothing listed, busy, fail and latch clear (log 3, log 8). -/
def Device.blank : Device :=
  { cells := [], undefinedPages := [], program := none, latch := false, fail := false, statusFaults := [] }

/-- The machine right after reset (R78): the supply has come up with RST# held low and PFI high, so the debounce
runs (R130), every volatile item holds its start value, and no command waits. The levels of the inputs are a DESIGN
CHOICE (log 2). -/
def State.reset : State :=
  { pins := { supply := true, rst := false, pfi := true, grp := true, lad := 0#2 },
    control := .start, upstream := .start, groups := .start, lines := [], journal := .start, cursor := none,
    port := .start, device := .blank,
    monitor := { debounce := .running Config.debounceTime, settled := false, holdUp := .stopped, dozeIdle := .stopped },
    outcomes := .start, link := .start Config.linkBase, boot := .start false, freeCount := 0, pending := [] }

end Sys2Proof.Machine
end

