-- ==== Sys2Proof/Machine/Ops.lean ====
section
/-! DEFINITION. The named operations over the array's memory, the device, the timers and byte order. The part has no
exception entry; what takes its place, entering HALTED, HOLDUP and DOWN, is in Modes.lean. -/

namespace Sys2Proof.Machine

/-! ### Byte order: most significant byte first (00_scope, 11_formats) -/

/-- The `width` low bytes of a number, most significant first. -/
def beBytes : Nat → Nat → List Byte
  | 0, _ => []
  | width + 1, n => BitVec.ofNat 8 (n / 256 ^ width) :: beBytes width n

/-- The number that bytes spell, most significant first. -/
def beNat (bytes : List Byte) : Nat :=
  bytes.foldl (fun n b => n * 256 + b.toNat) 0

/-- The number in the field of `width` bytes at `offset`. -/
def beField (offset width : Nat) (bytes : List Byte) : Nat :=
  beNat ((bytes.drop offset).take width)

/-- The byte at an offset; the fill value beyond the end (00_scope, "Fill value"). -/
def byteAt (bytes : List Byte) (offset : Nat) : Byte :=
  bytes.getD offset Config.fillByte

/-! ### The array's memory, in canonical form -/

/-- The array's bytes: (address, byte), strictly rising, no byte listed that an unlisted address reads as (log 3). -/
abbrev Memory := List Host.Cell

/-- The canonical form, within the array's addresses. -/
abbrev Memory.wf (m : Memory) : Prop :=
  m.Pairwise (fun a b => a.1 < b.1) ∧
    ∀ c ∈ m, c.2 ≠ Config.blankByte ∧ c.1 < Config.arrayPages * Config.pageSize

/-- One byte. An address that is not listed reads as `Config.blankByte`. -/
def Memory.read (m : Memory) (address : Nat) : Byte :=
  match m.find? (fun c => c.1 == address) with
  | some c => c.2
  | none => Config.blankByte

/-- The cells of consecutive bytes, those that are to be listed. -/
def Memory.cellsFrom : Nat → List Byte → Memory
  | _, [] => []
  | address, b :: rest =>
    if b = Config.blankByte then Memory.cellsFrom (address + 1) rest
    else (address, b) :: Memory.cellsFrom (address + 1) rest

/-- The memory with the addresses of one page taken out of the list. -/
def Memory.erasePage (m : Memory) (page : Nat) : Memory :=
  m.filter (fun c => c.1 / Config.pageSize != page)

/-- The memory with the 64 bytes of one page replaced. -/
def Memory.setPage (m : Memory) (page : Nat) (data : PageBytes) : Memory :=
  m.filter (fun c => decide (c.1 / Config.pageSize < page)) ++
    Memory.cellsFrom (page * Config.pageSize) (data.take Config.pageSize) ++
    m.filter (fun c => decide (page < c.1 / Config.pageSize))

/-! ### The device (R97) -/

/-- The device's memory is canonical: the cells are, the pages with undefined bytes are listed in ascending order,
and none of their bytes is listed as a cell. -/
abbrev Device.wf (d : Device) : Prop :=
  Memory.wf d.cells ∧ d.undefinedPages.Pairwise (fun a b => a.1 < b.1) ∧
    ∀ u ∈ d.undefinedPages, u.1 < Config.arrayPages ∧ ∀ c ∈ d.cells, c.1 / Config.pageSize ≠ u.1

/-- Busy is set while a program is under way (R97). -/
def Device.busy (d : Device) : Bool := d.program.isSome

/-- One byte of the array. A page whose bytes are undefined reads as its free value (R107, log 4). -/
def Device.readByte (d : Device) (page offset : Nat) : Byte :=
  match d.undefinedPages.find? (fun u => u.1 == page) with
  | some u => Config.freeByte u.2 offset
  | none => Memory.read d.cells (page * Config.pageSize + offset)

/-- The page holds undefined bytes. No marker and no check can be relied on to match them, so the start-up unit takes
such a page for invalid (R63, R82, R159, log 4). -/
def Device.isUndefined (d : Device) (page : Nat) : Bool := d.undefinedPages.any fun u => u.1 == page

/-- The 64 bytes a PAGE READ returns (R97). -/
def Device.readPage (d : Device) (page : Nat) : PageBytes :=
  (List.range Config.pageSize).map (d.readByte page)

/-- A page takes 64 bytes: a program of it has passed (R97). The device has no page beyond its last. -/
def Device.storePage (d : Device) (page : Nat) (data : PageBytes) : Device :=
  if page < Config.arrayPages then
    { d with
      cells := Memory.setPage d.cells page data
      undefinedPages := d.undefinedPages.filter (fun u => u.1 != page) }
  else d

/-- A page's bytes become undefined: its program was cut short or failed (R97, R107, log 4). -/
def Device.ruinPage (d : Device) (page index : Nat) : Device :=
  if page < Config.arrayPages then
    { d with
      cells := Memory.erasePage d.cells page
      undefinedPages :=
        d.undefinedPages.filter (fun u => decide (u.1 < page)) ++
          (page, index) :: d.undefinedPages.filter (fun u => decide (page < u.1)) }
  else d

/-- The program under way in the device ends, passed or failed (R97): the page holds its bytes, or undefined ones. After
an ARRAY_TIMEOUT it holds undefined ones however the program ends (R102, log 42). -/
def State.endDeviceProgram (failed : Bool) (s : State) : State :=
  match s.device.program with
  | none => s
  | some p =>
    let d := { s.device with program := none, fail := failed }
    if failed || p.overrun then { s with device := d.ruinPage p.page s.freeCount, freeCount := s.freeCount + 1 }
    else { s with device := d.storePage p.page p.data }

/-- The program under way in the device has run beyond the program time limit: the page's contents are unknown from now
on, and the device may still be busy (R102, log 42). -/
def Device.overrun (d : Device) : Device :=
  { d with program := d.program.map fun p => { p with overrun := true } }

/-- The device's supply is removed: a program under way is cut short and its page torn (R97, R107). The latch comes
up clear (log 8). A program that the part no longer waits for counts as under way until a ready check has seen it end
(log 40). -/
def State.unpowerDevice (s : State) : State :=
  match s.device.program with
  | none => { s with device := { s.device with latch := false } }
  | some p =>
    { s with
      device := ({ s.device with program := none, latch := false }).ruinPage p.page s.freeCount
      freeCount := s.freeCount + 1 }

/-- The fault, if any, in the next STATUS answer (log 8). -/
def Device.nextFault (d : Device) : StatusFault :=
  d.statusFaults.headD { busy := false, latchClear := false }

/-- STATUS has been sent: the next answer's fault, if any, is used up. -/
def Device.afterStatus (d : Device) : Device :=
  { d with statusFaults := d.statusFaults.tail }

/-! ### Timers (00_scope, "Times") -/

/-- One unit of 100 µs passes (log 6). -/
def Timer.tick : Timer → Timer
  | .running (n + 1) => .running n
  | t => t

/-- The timer runs. -/
def Timer.isRunning : Timer → Bool
  | .running _ => true
  | .stopped => false
  | .expired => false

/-- The time left: 0 unless the timer runs (R133). -/
def Timer.left : Timer → Nat
  | .running n => n
  | .stopped => 0
  | .expired => 0

/-- All timers of the part advance by one unit (log 6). -/
def State.tick (s : State) : State :=
  { s with
    upstream := { s.upstream with waitTimer := s.upstream.waitTimer.tick }
    groups := { s.groups with idleTimer := s.groups.idleTimer.tick }
    port := { s.port with wakeTimer := s.port.wakeTimer.tick, opTimer := s.port.opTimer.tick }
    monitor :=
      { s.monitor with
        debounce := s.monitor.debounce.tick
        holdUp := s.monitor.holdUp.tick
        dozeIdle := s.monitor.dozeIdle.tick } }

/-- The part is in the mode. -/
def State.inMode (s : State) (m : Mode) : Bool := s.control.mode == some m

/-- The mode changes. -/
def State.setMode (s : State) (m : Mode) : State := { s with control := { s.control with mode := some m } }

/-- A halted start-up: HALTED while a start-up has not ended (R89). -/
def State.haltedStartUp (s : State) : Bool := s.inMode .halted && s.boot.step != .idle

/-- The part is powered, out of reset and not in DOWN: it takes accesses and acknowledges its link address
(R78, R115, R139, R160). -/
def State.awake (s : State) : Bool := s.control.mode.isSome && !s.inMode .down

/-- The modes in which edges of GRP# are taken (R1). -/
def State.takesEdges (s : State) : Bool := s.awake && !s.inMode .starting

end Sys2Proof.Machine
end

