-- ==== Sys2Proof/Machine/Formats.lean ====
section
/-! DEFINITION. The byte layouts of spec/11_formats.md: the check code, the configuration copy, the journal pages. -/

namespace Sys2Proof.Machine

/-! ### The check code (R178) -/

/-- One bit of the check, least significant bit first; 0xEDB88320 is 0x04C11DB7 reflected. -/
def checkBit (c : CheckWord) : CheckWord :=
  if c.getLsbD 0 then (c >>> 1) ^^^ 0xEDB88320#32 else c >>> 1

/-- One byte of the check. -/
def checkByte (c : CheckWord) (b : Byte) : CheckWord :=
  checkBit (checkBit (checkBit (checkBit (checkBit (checkBit (checkBit (checkBit (c ^^^ b.setWidth 32))))))))

/-- The check register before the first byte. -/
def checkStart : CheckWord := 0xFFFFFFFF#32

/-- The check register after more bytes. -/
def checkOver (c : CheckWord) (bytes : List Byte) : CheckWord := bytes.foldl checkByte c

/-- The check code that a register has reached. -/
def checkFinal (c : CheckWord) : CheckWord := c ^^^ 0xFFFFFFFF#32

/-- The check code over a run of bytes. -/
def checkCode (bytes : List Byte) : CheckWord := checkFinal (checkOver checkStart bytes)

/-- A check as it is stored: four bytes, most significant first. -/
def checkBytes (c : CheckWord) : List Byte := beBytes 4 c.toNat

/-! ### The configuration copy -/

/-- The fields of a configuration (11_formats, "The Configuration Page"), and the protected ranges as pairs of first
and last page. -/
structure Configuration where
  generation : Nat
  floor : Nat
  base : Nat
  length : Nat
  quotaExplicit : Nat
  quotaAmbient : Nat
  ambientIdle : Nat
  waitLimit : Nat
  programLimit : Nat
  wakeTime : Nat
  dozeIdle : Nat
  holdUp : Nat
  attention : Byte
  ranges : List (Nat × Nat)
  deriving DecidableEq, Repr

/-- The fixed values of BARE (R84), which hold also before a copy is selected (R81, R106). Items that BARE does not
use are 0. -/
def Configuration.bare : Configuration :=
  { generation := 0, floor := 1, base := 0, length := 0, quotaExplicit := 0, quotaAmbient := 0, ambientIdle := 0,
    waitLimit := Config.bareWaitLimit, programLimit := Config.bareProgramLimit, wakeTime := Config.bareWakeTime,
    dozeIdle := 0, holdUp := 0, attention := 0#8, ranges := [] }

/-- The first `n` protected ranges, four bytes each. -/
def parseRanges : Nat → List Byte → List (Nat × Nat)
  | 0, _ => []
  | n + 1, bytes => (beField 0 2 bytes, beField 2 2 bytes) :: parseRanges n (bytes.drop 4)

/-- The fields of a 64-byte image, each at its offset (R179). -/
def Configuration.parse (image : PageBytes) : Configuration :=
  { generation := beField 1 4 image
    floor := beField 5 6 image
    base := beField 11 2 image
    length := beField 13 2 image
    quotaExplicit := beField 15 1 image
    quotaAmbient := beField 16 1 image
    ambientIdle := beField 17 1 image
    waitLimit := beField 18 2 image
    programLimit := beField 20 2 image
    wakeTime := beField 22 1 image
    dozeIdle := beField 23 2 image
    holdUp := beField 25 2 image
    attention := byteAt image 27
    ranges := parseRanges 8 (image.drop 28) }

/-- The tests of R171 by field index, which are those of R82: does field `index` (1 to 19) hold an allowed value? -/
def Configuration.fieldValid (c : Configuration) (index : Nat) : Bool :=
  match index with
  | 1 => decide (c.base + c.length ≤ Config.copyAPage)
  | 2 => decide (32 ≤ c.length) && decide (c.length ≤ 1024)
  | 3 => decide (1 ≤ c.quotaExplicit) && decide (c.quotaExplicit ≤ Config.maxGroupLines)
  | 4 => decide (1 ≤ c.quotaAmbient) && decide (c.quotaAmbient ≤ Config.maxGroupLines)
  | 5 => decide (1 ≤ c.ambientIdle) && decide (c.ambientIdle ≤ 255)
  | 6 => decide (20 ≤ c.waitLimit) && decide (c.waitLimit ≤ 1000) &&
      decide (c.programLimit + c.wakeTime < c.waitLimit)
  | 7 => decide (5 ≤ c.programLimit) && decide (c.programLimit ≤ 500)
  | 8 => decide (1 ≤ c.wakeTime) && decide (c.wakeTime ≤ 200)
  | 10 => decide (c.holdUp ≤ 1000)
  | k =>
    if 12 ≤ k then
      match c.ranges[k - 12]? with
      | some r => decide (r.2 < r.1) || decide (r.2 < Config.arrayPages)
      | none => true
    else true

/-- The lowest index of a field that fails its test (R171). -/
def Configuration.firstBadField (c : Configuration) : Option Nat :=
  (List.range 20).find? (fun k => !c.fieldValid k)

/-- The marker of a configuration copy (R82). -/
def configMarker : Byte := 0x6B#8

/-- The bytes 0 to 59 of a copy composed from a STORE (R179). -/
def copyBody (generation floor : Nat) (fields : List Byte) : List Byte :=
  configMarker :: (beBytes 4 generation ++ beBytes 6 floor ++ fields)

/-- A new configuration copy (R179). -/
def composeCopy (generation floor : Nat) (fields : List Byte) : PageBytes :=
  copyBody generation floor fields ++ checkBytes (checkCode (copyBody generation floor fields))

/-- The fields a STORE carries, read at the offsets of the configuration page less 11 (R181). -/
def parseStoreFields (fields : List Byte) : Configuration :=
  Configuration.parse (List.replicate 11 0#8 ++ fields)

/-- A copy is valid (R82). -/
def validCopy (image : PageBytes) : Bool :=
  byteAt image 0 == configMarker &&
    (image.drop 60).take 4 == checkBytes (checkCode (image.take 60)) &&
    decide (1 ≤ (Configuration.parse image).floor) &&
    decide ((Configuration.parse image).floor < Config.sequenceExhausted) &&
    ((Configuration.parse image).firstBadField == none)

/-! ### Which pages are what (R116, R117) -/

/-- A page of the journal region (R43). Without an active configuration the length is 0 and there is none. -/
def Configuration.isJournalPage (c : Configuration) (page : Nat) : Bool :=
  decide (c.base ≤ page) && decide (page < c.base + c.length)

/-- A reserved page (R116). -/
def Configuration.isReserved (c : Configuration) (page : Nat) : Bool :=
  decide (Config.copyAPage ≤ page) || c.isJournalPage page

/-- A page within an enabled protected range (R117). -/
def Configuration.isProtected (c : Configuration) (page : Nat) : Bool :=
  c.ranges.any (fun r => decide (r.1 ≤ r.2) && decide (r.1 ≤ page) && decide (page ≤ r.2))

/-- A ring position advanced by k pages (R43). -/
def Configuration.advance (c : Configuration) (position k : Nat) : Nat :=
  c.base + (position - c.base + k) % c.length

/-! ### Journal pages -/

/-- The code of a group's kind in a header. -/
def kindByte : GroupKind → Byte
  | .explicit => 0x01#8
  | .ambient => 0x02#8

/-- The 22 slots of a PAGE LIST: the pages, then 0xFFFF in each unused slot. -/
def pageListBytes : Nat → List Nat → List Byte
  | 0, _ => []
  | n + 1, [] => 0xFF#8 :: 0xFF#8 :: pageListBytes n []
  | n + 1, page :: rest => beBytes 2 page ++ pageListBytes n rest

/-- Bytes 0 to 59 of a header page. -/
def headerBody (sequence lines : Nat) (kind : GroupKind) (retired : Nat) (pages : List Nat) : List Byte :=
  [0xC3#8, 0x5A#8] ++ beBytes 6 sequence ++ beBytes 1 lines ++ [kindByte kind] ++ beBytes 6 retired ++
    pageListBytes Config.maxGroupLines pages

/-- The header page of a record (R47). -/
def composeHeader (sequence lines : Nat) (kind : GroupKind) (retired : Nat) (pages : List Nat) : PageBytes :=
  headerBody sequence lines kind retired pages ++
    checkBytes (checkCode (headerBody sequence lines kind retired pages))

/-- The first nine bytes of a commit page: marker, SEQUENCE, LINE COUNT. -/
def commitBody (sequence lines : Nat) : List Byte :=
  [0x3C#8, 0xA5#8] ++ beBytes 6 sequence ++ beBytes 1 lines

/-- The commit page that closes a record whose running check has reached `check` (R58). -/
def composeCommit (sequence lines : Nat) (check : CheckWord) : PageBytes :=
  commitBody sequence lines ++ checkBytes (checkFinal (checkOver check (commitBody sequence lines))) ++
    List.replicate 51 0#8

/-- The pages in the first n slots of a PAGE LIST. -/
def parsePageList : Nat → List Byte → List Nat
  | 0, _ => []
  | n + 1, bytes => beField 0 2 bytes :: parsePageList n (bytes.drop 2)

/-- A page judged as a possible header (R85): the header it is, if valid. Nothing else of it is examined (R180). -/
def judgeHeader (c : Configuration) (page : Nat) (data : PageBytes) : Option FoundHeader :=
  let lines := beField 8 1 data
  let pages := parsePageList lines (data.drop 16)
  if data.take 2 = [0xC3#8, 0x5A#8] ∧
      (data.drop 60).take 4 = checkBytes (checkCode (data.take 60)) ∧
      1 ≤ lines ∧ lines ≤ Config.maxGroupLines ∧
      (pages.all fun p => decide (p < Config.arrayPages) && !c.isReserved p) = true then
    some
      { page := page, sequence := beField 2 6 data, lines := lines, retiredThrough := beField 10 6 data,
        pages := pages, check := checkOver checkStart data, complete := none }
  else none

/-- A commit page completes the record of a header (R86): marker, SEQUENCE and LINE COUNT match and the RECORD CHECK
is the check taken, given the register over the header and image bytes. -/
def judgeCommit (h : FoundHeader) (check : CheckWord) (data : PageBytes) : Bool :=
  data.take 2 == [0x3C#8, 0xA5#8] && beField 2 6 data == h.sequence && beField 8 1 data == h.lines &&
    (data.drop 9).take 4 == checkBytes (checkFinal (checkOver check (data.take 9)))

end Sys2Proof.Machine
end

