-- ==== Sys2Proof/Machine/Flags.lean ====
section
/-! DEFINITION. The condition flags, the counters, the outputs that follow them, and the report block
(spec/10_the_maintenance_link.md, spec/11_formats.md). -/

namespace Sys2Proof.Machine

/-- The configuration in force: the active copy's fields (R83), or the fixed values of BARE (R84). -/
def State.config (s : State) : Configuration :=
  match s.boot.active with
  | some image => Configuration.parse image
  | none => Configuration.bare

/-! ### Counters (R168) -/

/-- A counter rises by 1 and stops at its maximum. -/
def bump (n : Nat) : Nat := if n < Config.counterMax then n + 1 else Config.counterMax

/-- The counters of the link unit change. -/
def State.withCounters (f : Counters → Counters) (s : State) : State :=
  { s with link := { s.link with counters := f s.link.counters } }

/-- The event flags of the link unit change. -/
def State.withFlags (f : EventFlags → EventFlags) (s : State) : State :=
  { s with link := { s.link with flags := f s.link.flags } }

/-- A write is staged: writes-staged (R29, R30). -/
def State.countStaged (s : State) : State :=
  s.withCounters fun c => { c with writesStaged := bump c.writesStaged }

/-- A write is refused: REFUSED and writes-refused (R119). -/
def State.countRefused (s : State) : State :=
  (s.withFlags fun f => { f with refused := true }).withCounters fun c =>
    { c with writesRefused := bump c.writesRefused }

/-- A group becomes DURABLE: groups-durable (R50, R58). -/
def State.countDurable (s : State) : State :=
  s.withCounters fun c => { c with groupsDurable := bump c.groupsDurable }

/-- A group is lost: LOST and groups-lost (R17, R18). -/
def State.countLost (s : State) : State :=
  (s.withFlags fun f => { f with lost := true }).withCounters fun c => { c with groupsLost := bump c.groupsLost }

/-- A read is unserved: UNSERVED and reads-unserved (R124). -/
def State.countUnserved (s : State) : State :=
  (s.withFlags fun f => { f with unserved := true }).withCounters fun c =>
    { c with readsUnserved := bump c.readsUnserved }

/-- A program is retried: program-retries (R103). -/
def State.countRetry (s : State) : State :=
  s.withCounters fun c => { c with programRetries := bump c.programRetries }

/-- The wait limit of a held access expires: stall-expiries (R121). -/
def State.countStallExpiry (s : State) : State :=
  s.withCounters fun c => { c with stallExpiries := bump c.stallExpiries }

/-- An access is taken in STARTING: early-accesses (R79). -/
def State.countEarly (s : State) : State :=
  s.withCounters fun c => { c with earlyAccesses := bump c.earlyAccesses }

/-- An assertion is dropped: DROPPED and outcomes-dropped (R10). -/
def State.countDropped (s : State) : State :=
  (s.withFlags fun f => { f with dropped := true }).withCounters fun c =>
    { c with outcomesDropped := bump c.outcomesDropped }

/-! ### Flags and ATTN (R165, R166) -/

/-- The level flag HALT (R166). -/
def State.haltFlag (s : State) : Bool := s.inMode .halted

/-- The level flag BARE (R166). -/
def State.bareFlag (s : State) : Bool := s.inMode .bare

/-- A bit of the flag byte. -/
def flagBit (set : Bool) (bit : Nat) : Byte := if set then (1#8 <<< bit) else 0#8

/-- The flag byte (11_formats): BARE, HALT, DROPPED, STORE_FAILED, STARTED, UNSERVED, LOST, REFUSED from bit 7. -/
def State.flagByte (s : State) : Byte :=
  flagBit s.bareFlag 7 ||| flagBit s.haltFlag 6 ||| flagBit s.link.flags.dropped 5 |||
    flagBit s.link.flags.storeFailed 4 ||| flagBit s.link.flags.started 3 ||| flagBit s.link.flags.unserved 2 |||
    flagBit s.link.flags.lost 1 ||| flagBit s.link.flags.refused 0

/-- The attention mask in use (R77, R83, R84, R166). -/
def State.attentionMask (s : State) : Byte :=
  if s.inMode .bare then 0xFF#8
  else match s.boot.active with
    | some image => (Configuration.parse image).attention
    | none => 0#8

/-- ATTN (R166): low in reset and in DOWN whatever the flags hold. -/
def State.attn (s : State) : Bool := s.awake && (s.flagByte &&& s.attentionMask) != 0#8

/-- The flags a CLEAR names are cleared; the entries for HALT and BARE are ignored (R167, R181). -/
def EventFlags.cleared (f : EventFlags) (mask : Byte) : EventFlags :=
  { refused := f.refused && !mask.getLsbD 0
    lost := f.lost && !mask.getLsbD 1
    unserved := f.unserved && !mask.getLsbD 2
    started := f.started && !mask.getLsbD 3
    storeFailed := f.storeFailed && !mask.getLsbD 4
    dropped := f.dropped && !mask.getLsbD 5 }

/-! ### The other outputs -/

/-- RDY (R79, R84, R89, R94, R137): high while the part serves the upstream bus. -/
def State.rdy (s : State) : Bool :=
  s.awake && !s.inMode .starting && !s.haltedStartUp

/-- CACK (R25). -/
def State.cack (s : State) : Bool :=
  match s.outcomes.pulse with
  | .high _ => true
  | .idle => false
  | .setup _ => false

/-- CRES (R25): high for durable, low for lost and outside a pulse. -/
def State.cres (s : State) : Bool :=
  match s.outcomes.pulse with
  | .high durable => durable
  | .setup durable => durable
  | .idle => false

/-- UWAIT (R115): asserted while an access is held. -/
def State.uwait (s : State) : Bool :=
  match s.upstream.access with
  | some a =>
    match a.stage with
    | .heldWrite _ _ _ _ => true
    | .heldRead _ _ _ => true
    | .begun => false
  | none => false

/-- UD as the part drives it (R115): the byte of the last read, as long as the host `holds` UCS# and UOE#; not driven in
reset and in DOWN. The host's release after the read has completed is no row of the table (log 23). -/
def State.ud (s : State) (holds : Bool) : Option Byte :=
  match s.upstream.result with
  | some (.byte b) => if holds && s.awake then some b else none
  | some .abandoned => none
  | some .staged => none
  | some (.refused _) => none
  | some .withoutEffect => none
  | none => none

/-! ### The report block (R163, 11_formats) -/

def modeByte : Option Mode → Byte
  | some .starting => 1#8
  | some .bare => 2#8
  | some .running => 3#8
  | some .dozing => 4#8
  | some .draining => 5#8
  | some .halted => 6#8
  | some .holdup => 7#8
  | some .down => 0#8
  | none => 0#8

def faultKindByte : FaultKind → Byte
  | .journalFail => 1#8
  | .applyFail => 2#8
  | .replayFail => 3#8
  | .arrayTimeout => 4#8

def opKindByte : OpKind → Byte
  | .pageRead => 1#8
  | .pageProgram => 2#8

def powerByte : PowerState → Byte
  | .off => 0#8
  | .waking => 1#8
  | .on => 2#8

def causeByte : Cause → Byte
  | .powerOn => 1#8
  | .resetLine => 2#8
  | .supplyRecovery => 3#8
  | .restart => 4#8
  | .store => 5#8

def copyByte : Copy → Byte
  | .none => 0#8
  | .a => 1#8
  | .b => 2#8

def storeResultByte : StoreResult → Byte
  | .none => 0#8
  | .stored => 1#8
  | .formatFailed => 2#8
  | .copyFailed => 3#8

def statusByte : Status → Byte
  | .done => 0x00#8
  | .pending => 0x01#8
  | .refusedMode => 0x02#8
  | .refusedBusy => 0x03#8
  | .refusedField => 0x04#8
  | .refusedOverlap => 0x05#8
  | .nothing => 0x06#8
  | .unknown => 0x07#8

/-- Report bytes 1 to 10: the fault record; zeros when it is empty (R181). -/
def faultBytes : Option FaultRecord → List Byte
  | none => List.replicate 10 0#8
  | some f => [faultKindByte f.kind, opKindByte f.operation] ++ beBytes 2 f.page ++ beBytes 6 f.sequence

/-- Journal free pages (R44): 0 while no configuration is active. -/
def State.freePages (s : State) : Nat := s.config.length - s.journal.inUse

/-- Report bytes 36 to 71: the nine counters. -/
def counterBytes (c : Counters) : List Byte :=
  beBytes 4 c.writesStaged ++ beBytes 4 c.writesRefused ++ beBytes 4 c.groupsDurable ++ beBytes 4 c.groupsLost ++
    beBytes 4 c.readsUnserved ++ beBytes 4 c.programRetries ++ beBytes 4 c.stallExpiries ++
    beBytes 4 c.earlyAccesses ++ beBytes 4 c.outcomesDropped

/-- Report bytes 72 to 94: the start-up record. There is always one when a report can be taken. -/
def startUpBytes : Option StartUpRecord → List Byte
  | none => List.replicate 23 0#8
  | some r =>
    [causeByte r.cause, copyByte r.copy] ++ beBytes 4 r.generation ++ beBytes 2 r.validHeaders ++
      beBytes 2 r.replayed ++ beBytes 2 r.skipped ++ beBytes 2 r.incomplete ++ beBytes 2 r.programmed ++
      beBytes 6 r.cutOff ++ [storeResultByte r.storeResult]

/-- The report block, 95 bytes (R163). -/
def State.reportBlock (s : State) : List Byte :=
  [modeByte s.control.mode] ++ faultBytes s.control.fault ++ [s.flagByte, powerByte s.port.power] ++
    beBytes 1 s.groups.table.length ++ beBytes 1 s.lines.length ++ beBytes 1 s.outcomes.queue.length ++
    beBytes 2 s.freePages ++ beBytes 6 s.groups.nextSequence ++ beBytes 6 s.journal.durable ++
    beBytes 6 s.journal.retired ++ counterBytes s.link.counters ++ startUpBytes s.boot.record

/-- Byte k of what a read transaction returns (R160): the status, the data, then 0xFF. -/
def Response.readByte (r : Response) (k : Nat) : Byte :=
  byteAt (statusByte r.status :: r.data) k

end Sys2Proof.Machine
end

