-- ==== Sys2Proof/Machine/Operands.lean ====
section
/-! DEFINITION. The operands of the commands: the page and offset of an upstream address (R116), and the command a
write transaction carries (R161). -/

namespace Sys2Proof.Machine

/-- The page an upstream address names (R116). -/
def pageOf (address : Address) : Nat := address.toNat / Config.pageSize

/-- The offset within that page (R116). -/
def offsetOf (address : Address) : Nat := address.toNat % Config.pageSize

/-- The commands of the maintenance link (11_formats, "Link Messages"). -/
inductive LinkCommand
  | report | clear | seal | resume | restart | store | readConfig
  deriving DecidableEq, Repr

/-- The command a code names. -/
def commandOfCode (code : Byte) : Option LinkCommand :=
  if code = 0x10#8 then some .report
  else if code = 0x20#8 then some .clear
  else if code = 0x30#8 then some .seal
  else if code = 0x40#8 then some .resume
  else if code = 0x50#8 then some .restart
  else if code = 0x60#8 then some .store
  else if code = 0x70#8 then some .readConfig
  else none

/-- The command a write transaction carries, if its code names one and its byte count is that command's (R161). -/
def commandOf (bytes : List Byte) : Option LinkCommand :=
  if namesCommand bytes then
    match bytes with
    | [] => none
    | code :: _ => commandOfCode code
  else none

/-- What R162 says of a command in a mode, before the busy test. -/
inductive Acceptance
  /-- Carried out by the command's own rule. -/
  | served
  | nothing
  | refusedMode
  | refusedBusy
  deriving DecidableEq, Repr

/-- The table of R162. The waking commands in DOZING are decided under RUNNING, after the wake; in DOWN and in reset
no command is taken. -/
def accepts : LinkCommand → Mode → Acceptance
  | .report, _ => .served
  | _, .starting => .refusedMode
  | .clear, _ => .served
  | .seal, .bare => .nothing
  | .seal, .halted => .nothing
  | .seal, .holdup => .refusedMode
  | .seal, _ => .served
  | .resume, .halted => .served
  | .resume, _ => .refusedMode
  | .restart, .draining => .refusedBusy
  | .restart, .holdup => .refusedMode
  | .restart, _ => .served
  | .store, .draining => .refusedBusy
  | .store, .halted => .refusedMode
  | .store, .holdup => .refusedMode
  | .store, _ => .served
  | .readConfig, .bare => .nothing
  | .readConfig, _ => .served

/-- The commands that wake a dozing part (R145, R162). -/
def LinkCommand.wakes : LinkCommand → Bool
  | .seal => true
  | .restart => true
  | .store => true
  | .report => false
  | .clear => false
  | .resume => false
  | .readConfig => false

end Sys2Proof.Machine
end

