-- ==== Sys2Proof/Machine/Lines.lean ====
section
/-! DEFINITION. The line store (spec/02_staging_lines.md): merge, allocation, forwarding, completion and freeing. -/

namespace Sys2Proof.Machine

/-- All 64 mask entries are set (R33). -/
def Line.isComplete (l : Line) : Bool := l.bytes.all Option.isSome

/-- The line's 64 data bytes; the fill value where the mask entry is clear (02, "Contents of a Line"). -/
def Line.image (l : Line) : PageBytes := l.bytes.map fun b => b.getD Config.fillByte

/-- The byte at an offset, if its mask entry is set. -/
def Line.byteAt (l : Line) (offset : Nat) : Option Byte := (l.bytes[offset]?).getD none

/-- A line for a page with one byte written (R30). -/
def Line.fresh (owner page offset : Nat) (data : Byte) : Line :=
  { owner := owner, page := page, bytes := (List.replicate Config.pageSize none).set offset (some data) }

/-- A byte is merged into the line (R29). -/
def Line.merge (l : Line) (offset : Nat) (data : Byte) : Line :=
  { l with bytes := l.bytes.set offset (some data) }

/-- The clear offsets are filled from the source bytes (R39). -/
def Line.fill (l : Line) (source : PageBytes) : Line :=
  { l with bytes := l.bytes.mapIdx fun offset b => some (b.getD (Sys2Proof.Machine.byteAt source offset)) }

/-- The line is the group's line for the page. -/
def Line.isFor (l : Line) (owner page : Nat) : Bool := l.owner == owner && l.page == page

/-- A line is inserted where it keeps the order: by owner, then by page (R27, R30). -/
def insertLine (l : Line) : List Line → List Line
  | [] => [l]
  | m :: rest =>
    if l.owner < m.owner ∨ (l.owner = m.owner ∧ l.page < m.page) then l :: m :: rest
    else m :: insertLine l rest

/-- The group's line list, in ascending order of page (R27). -/
def State.lineList (s : State) (group : Nat) : List Line := s.lines.filter fun l => l.owner == group

/-- The group's line count (R27). -/
def State.lineCount (s : State) (group : Nat) : Nat := (s.lineList group).length

/-- Line k of the group's line list, counted from 1. -/
def State.lineOf (s : State) (group k : Nat) : Option Line := (s.lineList group)[k - 1]?

/-- The group owns a line for the page (R28). -/
def State.ownsLine (s : State) (group page : Nat) : Bool := s.lines.any fun l => l.isFor group page

/-- A line is free (R26). -/
def State.hasFreeLine (s : State) : Bool := decide (s.lines.length < Config.lineCount)

/-- The write is merged into the group's own line for the page (R29). -/
def State.mergeWrite (s : State) (group page offset : Nat) (data : Byte) : State :=
  { s with lines := s.lines.map fun l => if l.isFor group page then l.merge offset data else l }

/-- The write is given a new line (R30). -/
def State.allocateLine (s : State) (group page offset : Nat) (data : Byte) : State :=
  { s with lines := insertLine (Line.fresh group page offset data) s.lines }

/-- All the group's lines are freed (R40, R41). -/
def State.freeLines (s : State) (group : Nat) : State :=
  { s with lines := s.lines.filter fun l => l.owner != group }

/-- The forwarding search (R36): the in-use lines of the page, youngest owner first; the first whose mask entry is
set supplies the byte. -/
def State.forward (s : State) (page offset : Nat) : Option Byte :=
  s.lines.reverse.findSome? fun l => if l.page = page then l.byteAt offset else none

/-- The completion source (R38): the line of the youngest owner older than the group, if there is one. -/
def State.completionSource (s : State) (group page : Nat) : Option Line :=
  s.lines.reverse.find? fun l => l.page == page && decide (l.owner < group)

/-- The completion merge into line k of the group (R39). -/
def State.completeLine (s : State) (group page : Nat) (source : PageBytes) : State :=
  { s with lines := s.lines.map fun l => if l.isFor group page then l.fill source else l }

end Sys2Proof.Machine
end

