-- ==== Sys2Proof/Machine/Groups.lean ====
section
/-! DEFINITION. The group controller (spec/01_commit_groups.md): the table, sealing and loss, the outcome entries,
the edges of GRP#, and the writes it hands to the line store. -/

namespace Sys2Proof.Machine

/-! ### Activity and doze (R141), wake (R145) -/

/-- The doze idle timer is started with the full time; never while the doze idle is 0 (R141). -/
def State.startDozeTimer (s : State) : State :=
  if s.config.dozeIdle = 0 then s
  else { s with monitor := { s.monitor with dozeIdle := .running s.config.dozeIdle } }

/-- An activity event (R141): it counts in RUNNING alone. -/
def State.activity (s : State) : State := if s.inMode .running then s.startDozeTimer else s

/-- A wake from DOZING (R145, R109). -/
def State.wake (s : State) : State :=
  State.startDozeTimer
    { s with
      control := { s.control with mode := some .running }
      port := { s.port with power := .waking, apwr := true, wakeTimer := .running s.config.wakeTime } }

/-! ### Completing an access (R115, R119) -/

/-- The access completes with its result: UWAIT is released and the wait limit timer stops (R115, R120). -/
def State.completeAccess (result : AccessResult) (s : State) : State :=
  State.activity
    { s with upstream := { s.upstream with access := none, result := some result, waitTimer := .stopped } }

/-- The write is staged (R29, R30). -/
def State.stageWrite (s : State) : State := s.countStaged.completeAccess .staged

/-- The write is refused (R119). -/
def State.refuseWrite (reason : RefusalReason) (s : State) : State :=
  s.countRefused.completeAccess (.refused reason)

/-- A read completes with a byte. -/
def State.serveRead (data : Byte) (s : State) : State := s.completeAccess (.byte data)

/-- A read completes with the fill value as an unserved read (R124). -/
def State.leaveUnserved (s : State) : State := s.countUnserved.serveRead Config.fillByte

/-- The access is held on UWAIT at this stage; the wait limit timer starts when it is first held (R120). -/
def State.holdAccess (stage : AccessStage) (s : State) : State :=
  match s.upstream.access with
  | none => s
  | some a =>
    { s with
      upstream :=
        { s.upstream with
          access := some { a with stage := stage }
          waitTimer :=
            if s.upstream.waitTimer.isRunning then s.upstream.waitTimer else .running s.config.waitLimit } }

/-- A write is in progress, as far as an edge of GRP# is concerned (R6, R14): one that is held, or an access whose
strobe has not come (log 12). -/
def State.writeInProgress (s : State) : Bool :=
  match s.upstream.access with
  | none => false
  | some a =>
    match a.stage with
    | .begun => true
    | .heldWrite _ _ _ _ => true
    | .heldRead _ _ _ => false

/-- The access in progress is explicit (R1). -/
def State.accessExplicit (s : State) : Bool :=
  match s.upstream.access with
  | none => false
  | some a => a.explicit

/-- A loose write is in progress (R6). -/
def State.looseWriteInProgress (s : State) : Bool := s.writeInProgress && !s.accessExplicit

/-- A loose write that has joined the ambient group is held for a line (R21). -/
def State.looseWriteJoined (s : State) : Bool :=
  match s.upstream.access with
  | some { explicit := false, stage := .heldWrite _ _ _ (.line _) } => true
  | _ => false

/-! ### The group table (R2, R4) -/

/-- A table entry is free (R2). -/
def State.entryFree (s : State) : Bool := decide (s.groups.table.length < Config.tableSize)

/-- The next sequence is exhausted (R4). -/
def State.sequenceExhausted (s : State) : Bool := decide (Config.sequenceExhausted ≤ s.groups.nextSequence)

/-- The table entry with a sequence. -/
def State.groupOf (s : State) (group : Nat) : Option Group :=
  s.groups.table.find? fun g => g.sequence == group

/-- An entry is created with the next sequence, which rises by 1 (R2, R4). -/
def State.createEntry (kind : GroupKind) (state : GroupState) (s : State) : State :=
  { s with
    groups :=
      { s.groups with
        table := s.groups.table ++ [{ sequence := s.groups.nextSequence, kind := kind, state := state }]
        nextSequence := s.groups.nextSequence + 1 } }

/-- A group's state changes. -/
def State.setGroupState (group : Nat) (state : GroupState) (s : State) : State :=
  { s with
    groups :=
      { s.groups with
        table := s.groups.table.map fun g => if g.sequence = group then { g with state := state } else g } }

/-- The ambient group that is GATHERING, if there is one (R19). -/
def State.gathering (s : State) : Option Group :=
  s.groups.table.find? fun g => g.state == .gathering

/-- The current explicit group record takes a status (R5). -/
def State.setCurrent (current : Current) (s : State) : State :=
  { s with groups := { s.groups with current := current } }

/-! ### Outcome entries (R23, R24) -/

/-- The outcome queue holds 16 entries (R10). -/
def State.queueFull (s : State) : Bool := decide (Config.queueSize ≤ s.outcomes.queue.length)

/-- An entry with result PENDING is appended for the current explicit group (R23). -/
def State.appendOutcome (s : State) : State :=
  { s with
    outcomes := { s.outcomes with queue := s.outcomes.queue ++ [{ result := .pending, owner := .current }] } }

/-- A result is posted to an owner's entry; it changes from PENDING only once (R24). -/
def State.postOutcome (owner : OutcomeOwner) (result : OutcomeResult) (s : State) : State :=
  { s with
    outcomes :=
      { s.outcomes with
        queue := s.outcomes.queue.map fun e =>
          if e.owner = owner ∧ e.result = .pending then { e with result := result } else e } }

/-- The reference of an owner's entry changes. -/
def State.relinkOutcome (owner new : OutcomeOwner) (s : State) : State :=
  { s with
    outcomes :=
      { s.outcomes with
        queue := s.outcomes.queue.map fun e => if e.owner = owner then { e with owner := new } else e } }

/-- The outcome queue is emptied without pulses, and CACK and CRES go low at once (R23, R25). -/
def State.emptyOutcomes (s : State) : State := { s with outcomes := { queue := [], pulse := .idle } }

/-! ### Opening, sealing, losing -/

/-- The deferred or just admitted explicit group opens (R6, R8): its entry is created and its outcome entry gains the
reference. -/
def State.openExplicit (s : State) : State :=
  ((s.createEntry .explicit .opened).setCurrent (.opened s.groups.nextSequence)).relinkOutcome .current
    (.group s.groups.nextSequence)

/-- The ambient group, if GATHERING, is sealed, and the idle timer stops (R20, R21). A seal that waits for a loose write
in progress goes on waiting for it (R6). -/
def State.sealAmbient (s : State) : State :=
  let waits := s.groups.sealWaits && s.looseWriteInProgress
  match s.gathering with
  | none => { s with groups := { s.groups with sealWaits := waits } }
  | some g =>
    let t := s.setGroupState g.sequence .sealed
    { t with groups := { t.groups with sealWaits := waits, idleTimer := .stopped } }

/-- A cause of R21 other than an assertion of GRP#: the ambient group, if GATHERING, is sealed, at the completion of
a loose write that has joined it and is held. A seal that waits already is not repeated (R21, R169). -/
def State.requestSeal (s : State) : State :=
  if s.gathering.isNone || s.groups.sealWaits then s
  else if s.looseWriteJoined then { s with groups := { s.groups with sealWaits := true } }
  else s.sealAmbient

/-- An entry frees (R2). Its outcome entry's reference is dropped (R24). A deferred group that was lost while it
waited takes an entry in LOST state (R8, R17). -/
def State.freeEntry (group : Nat) (s : State) : State :=
  let t :=
    ({ s with
       groups := { s.groups with table := s.groups.table.filter fun g => g.sequence != group } }).relinkOutcome
      (.group group) .dropped
  if t.groups.current = .lost none ∧ t.sequenceExhausted = false ∧ t.entryFree = true then
    (t.createEntry .explicit .lost).setCurrent (.lost (some t.groups.nextSequence))
  else t

/-- The current explicit group, if OPEN or DEFERRED, is lost (R17). -/
def State.loseExplicit (s : State) : State :=
  match s.groups.current with
  | .opened g =>
    ((((s.freeLines g).setGroupState g .lost).setCurrent (.lost (some g))).postOutcome (.group g) .lost).countLost
  | .deferred =>
    State.countLost
      (State.postOutcome .current .lost
        { s with groups := { s.groups with current := .lost none, openingWaits := false } })
  | .none => s
  | .refused => s
  | .lost _ => s

/-- The ambient group, if GATHERING, is lost: its lines and its entry are freed at once (R18). -/
def State.loseAmbient (s : State) : State :=
  match s.gathering with
  | none => s
  | some g =>
    let t := (s.freeLines g.sequence).countLost
    State.freeEntry g.sequence { t with groups := { t.groups with sealWaits := false, idleTimer := .stopped } }

/-- A write is refused with a reason other than GROUP: an explicit write loses its OPEN or DEFERRED group (R12, R16). -/
def State.refuseAndLose (reason : RefusalReason) (s : State) : State :=
  State.refuseWrite reason (if s.accessExplicit then s.loseExplicit else s)

/-! ### Edges of GRP# (R6 to R15) -/

/-- A refused group (R9): an outcome entry and status REFUSED. -/
def State.refuseGroup (s : State) : State := s.appendOutcome.setCurrent .refused

/-- A dropped assertion (R10). -/
def State.dropAssertion (s : State) : State := s.countDropped.setCurrent .refused

/-- An assertion in RUNNING (R6, R7, R9 for an exhausted sequence, R10). The ambient group is sealed first, or, while
a loose write is in progress, when that write completes; in that case the opening waits too. -/
def State.admitAssertion (s : State) : State :=
  let t := if s.looseWriteInProgress then { s with groups := { s.groups with sealWaits := true } } else s.sealAmbient
  if t.queueFull then t.dropAssertion
  else if t.sequenceExhausted then t.refuseGroup
  else if t.looseWriteInProgress then
    State.setCurrent .deferred
      { t.appendOutcome with groups := { t.groups with openingWaits := true } }
  else if t.entryFree then t.appendOutcome.openExplicit
  else t.appendOutcome.setCurrent .deferred

/-- An assertion taken, by the mode (01, "Opening an Explicit Group"). In DRAINING an ambient group that still gathers
(log 15) goes on gathering (log 38). -/
def State.takeAssertion (s : State) : State :=
  match s.control.mode with
  | some .running => s.admitAssertion
  | some .dozing => s.wake.admitAssertion
  | some .draining => if s.queueFull then s.dropAssertion else s.refuseGroup
  | some .halted => if s.queueFull then s.dropAssertion else s.refuseGroup
  | some .bare => if s.queueFull then s.dropAssertion else s.refuseGroup
  | some .holdup => s
  | some .starting => s
  | some .down => s
  | none => s

/-- The bracket has ended: the status returns to NONE (R14, R15). -/
def State.endBracket (s : State) : State :=
  State.relinkOutcome .current .dropped { s with groups := { s.groups with current := .none, openingWaits := false } }

/-- A release taken, by the status, with DSC as sampled at its edge (R8, R9, R11, R14, R15). That of a DEFERRED group
posts LOST and counts no loss, with DSC high too (log 36). -/
def State.takeRelease (dsc : Bool) (s : State) : State :=
  match s.groups.current with
  | .none => s
  | .opened g =>
    if dsc then (s.loseExplicit.freeEntry g).endBracket else (s.setGroupState g .sealed).endBracket
  | .deferred => (s.postOutcome .current .lost).endBracket
  | .refused => (s.postOutcome .current .lost).endBracket
  | .lost (some g) => (s.freeEntry g).endBracket
  | .lost none => s.endBracket

/-- An edge takes effect; it is an activity event (R141). -/
def State.takeEdge (e : Edge) (s : State) : State :=
  State.activity
    (match e with
      | .assertion => s.takeAssertion
      | .release dsc => s.takeRelease dsc)

/-- An edge has to be noted (R14): an earlier edge waits for the write in progress, or a write of the OPEN or DEFERRED
group is in progress at a release. A seal alone that waits for the write, after a dropped (R10) or exhausted (R4)
assertion, is no edge that waits, so the next edge is taken at once (log 37). -/
def State.mustNote (e : Edge) (s : State) : Bool :=
  s.writeInProgress &&
    (s.groups.openingWaits || !s.groups.noted.isEmpty ||
      match e with
      | .assertion => false
      | .release _ =>
        s.accessExplicit &&
          match s.groups.current with
          | .opened _ => true
          | .deferred => true
          | .none => false
          | .refused => false
          | .lost _ => false)

/-- An edge is noted until the write in progress completes (R14). It has been taken, so it is an activity event (R141). -/
def State.noteEdge (e : Edge) (s : State) : State :=
  State.activity { s with groups := { s.groups with noted := s.groups.noted ++ [e] } }

/-- An edge of GRP# arrives in a mode that takes edges. -/
def State.edge (e : Edge) (s : State) : State := if s.mustNote e then s.noteEdge e else s.takeEdge e

/-- What waited for a write in progress takes effect once none is: the seal, then the opening, then the noted edges
one by one (R6, R14, R21). In HALTED the group stays DEFERRED (R150, log 16). -/
def State.edgeStep (s : State) : Option State :=
  if s.takesEdges = false ∨ s.writeInProgress = true then none
  else if s.groups.sealWaits then some s.sealAmbient
  else if s.groups.openingWaits then
    let t := { s with groups := { s.groups with openingWaits := false } }
    if t.groups.current = .deferred ∧ t.entryFree = true ∧ t.sequenceExhausted = false ∧ t.inMode .halted = false then
      some t.openExplicit
    else some t
  else
    match s.groups.noted with
    | [] => none
    | e :: rest => some (State.takeEdge e { s with groups := { s.groups with noted := rest } })

/-- What waited for a write in progress takes effect, all of it. -/
def State.flushEdges : Nat → State → State
  | 0, s => s
  | n + 1, s =>
    match s.edgeStep with
    | none => s
    | some t => State.flushEdges n t

/-! ### Writes handed to the line store (R12, R13, R19, R28 to R31) -/

/-- A new line is taken and the write staged; the ambient group's Q_A-th line seals it (R21, R30). -/
def State.placeNewLine (group page offset : Nat) (data : Byte) (s : State) : State :=
  let t := (s.allocateLine group page offset data).stageWrite
  match t.gathering with
  | none => t
  | some g => if g.sequence = group ∧ t.lineCount group = t.config.quotaAmbient then t.sealAmbient else t

/-- The group is an explicit one whose line count has reached Q_E (R13). -/
def State.overflows (group : Nat) (s : State) : Bool :=
  match s.groupOf group with
  | none => false
  | some g => g.kind == .explicit && decide (s.config.quotaExplicit ≤ s.lineCount group)

/-- The write reaches the line store for a group (R28): it merges, overflows, takes a new line or waits for one. -/
def State.storeWrite (group page offset : Nat) (data : Byte) (s : State) : State :=
  if s.ownsLine group page then (s.mergeWrite group page offset data).stageWrite
  else if s.overflows group then s.loseExplicit.refuseWrite .group
  else if s.hasFreeLine then s.placeNewLine group page offset data
  else s.holdAccess (.heldWrite page offset data (.line group))

/-- A loose write joins the ambient group: the idle timer restarts with the full time (R20). -/
def State.joinAmbient (s : State) : State :=
  { s with groups := { s.groups with idleTimer := .running s.config.ambientIdle } }

/-- A loose write creates the ambient group and joins it (R19). -/
def State.createAmbient (s : State) : State := (s.createEntry .ambient .gathering).joinAmbient

/-- A loose write that has passed the mode and address checks (R19, R4). -/
def State.looseWrite (page offset : Nat) (data : Byte) (s : State) : State :=
  match s.gathering with
  | some g => s.joinAmbient.storeWrite g.sequence page offset data
  | none =>
    if s.sequenceExhausted then s.refuseWrite .mode
    else if s.entryFree then s.createAmbient.storeWrite s.groups.nextSequence page offset data
    else s.holdAccess (.heldWrite page offset data .entry)

/-- An explicit write that has passed the mode and address checks, by the status (R12). -/
def State.explicitWrite (page offset : Nat) (data : Byte) (s : State) : State :=
  match s.groups.current with
  | .opened g => s.storeWrite g page offset data
  | .deferred => s.holdAccess (.heldWrite page offset data .opening)
  | .none => s.refuseWrite .group
  | .refused => s.refuseWrite .group
  | .lost _ => s.refuseWrite .group

/-- A free table entry is given to a waiting claimant (R8): first a loose write that would create the ambient group,
then the deferred explicit group, whose stalled write goes on as a write to the open group. In HALTED none is
(R150). -/
def State.claimStep (s : State) : Option State :=
  if s.takesEdges = false ∨ s.entryFree = false ∨ s.inMode .halted = true then none
  else
    match s.upstream.access with
    | some { explicit := _, stage := .heldWrite page offset data .entry } =>
      if s.sequenceExhausted then some (s.refuseWrite .mode)
      else some (s.createAmbient.storeWrite s.groups.nextSequence page offset data)
    | access =>
      if s.groups.current = .deferred ∧ s.groups.openingWaits = false ∧ s.sequenceExhausted = false then
        match access with
        | some { explicit := _, stage := .heldWrite page offset data .opening } =>
          some (s.openExplicit.storeWrite s.groups.nextSequence page offset data)
        | _ => some s.openExplicit
      else none

/-- The waiting write takes a line that has freed (R31). -/
def State.lineStep (s : State) : Option State :=
  if s.takesEdges = false ∨ s.hasFreeLine = false then none
  else
    match s.upstream.access with
    | some { explicit := _, stage := .heldWrite page offset data (.line g) } =>
      some (s.placeNewLine g page offset data)
    | _ => none

end Sys2Proof.Machine
end

