-- ==== Sys2Proof/Machine/Modes.lean ====
section
/-! DEFINITION. The changes of mode, each one event with all its effects: into STARTING (R76, R77), reset (R78),
DOZING (R143), DRAINING (R172), HALTED (R149), HOLDUP (R132) and DOWN (R137). -/

namespace Sys2Proof.Machine

/-! ### Parts of several entries -/

/-- Every operation of the array is abandoned, with no result (R99). Requests are computed views, so they lapse with
the states they are computed from. -/
def Port.abandoned (p : Port) : Port := { p with inFlight := none, suspended := none, opTimer := .stopped }

/-- The array power state becomes OFF: APWR falls, the wake timer stops, the read buffer is invalidated, and the device
loses its supply (R107, R108). -/
def State.powerOff (s : State) : State :=
  State.unpowerDevice
    { s with
      port := { s.port with power := .off, apwr := false, wakeTimer := .stopped }
      upstream := { s.upstream with buffer := none } }

/-- The drain record's kind becomes none (R174). -/
def State.endDrain (s : State) : State := { s with link := { s.link with drain := .none } }

/-- The doze idle timer stops (R141). -/
def State.stopDozeTimer (s : State) : State := { s with monitor := { s.monitor with dozeIdle := .stopped } }

/-- What the bus takes with it when an access is cut off (R126, R128): a read returns the fill value, a write has no
effect. -/
def AccessStage.cutOff : AccessStage → AccessResult
  | .heldRead _ _ _ => .byte Config.fillByte
  | .heldWrite _ _ _ _ => .withoutEffect
  | .begun => .withoutEffect

/-- An access in progress ends with no flag or counter changed (R126, R128). -/
def Upstream.cutOff (u : Upstream) : Upstream :=
  match u.access with
  | none => { u with waitTimer := .stopped }
  | some a => { u with access := none, result := some a.stage.cutOff, waitTimer := .stopped }

/-- The debounce restarts: settled is cleared and, with PFI high, the timer starts with its full time (R130). -/
def State.restartDebounce (s : State) : State :=
  { s with
    monitor :=
      { s.monitor with
        settled := false
        debounce := if s.pins.pfi then .running Config.debounceTime else .stopped } }

/-! ### DOWN (R137) and reset (R78) -/

/-- Entry into DOWN, from whatever mode (R137). Lines, groups and ring pointers stay in place, and with them pages in
use and the youngest retired and durable sequences (log 39); flags, counters and the fault record are not changed; a
start-up under way and an undecided command are abandoned (log 26, log 29). -/
def State.enterDown (s : State) : State :=
  State.restartDebounce
    (State.powerOff
      { s with
        control := { s.control with mode := some .down, retrying := false }
        upstream := s.upstream.cutOff
        groups := { s.groups with openingWaits := false, sealWaits := false, noted := [], idleTimer := .stopped }
        journal := { s.journal with record := none }
        cursor := none
        port := s.port.abandoned
        monitor := { s.monitor with holdUp := .stopped, dozeIdle := .stopped }
        outcomes := .start
        link := { s.link with taken := none, drain := .none }
        boot := { s.boot with step := .idle, headers := [], toReplay := [] } })

/-- Every volatile item takes the value it holds while RST# is low (R78). The PFI debounce goes on (R130). -/
def State.volatileReset (s : State) : State :=
  State.unpowerDevice
    { s with
      control := .start
      upstream := { Upstream.start with result := s.upstream.cutOff.result }
      groups := .start
      lines := []
      journal := .start
      cursor := none
      port := .start
      monitor := { s.monitor with holdUp := .stopped, dozeIdle := .stopped }
      outcomes := .start
      link := .start s.link.address
      boot := .start s.boot.startedSinceSupply }

/-- The fall of RST# (R78, R128). -/
def State.enterReset (s : State) : State :=
  { s.volatileReset with pins := { s.pins with rst := false } }

/-- The supply falls below its operating level: all state is lost, the debounce with it (R130, R139, log 27). -/
def State.loseSupply (s : State) : State :=
  { s.volatileReset with
    pins := { s.pins with supply := false }
    upstream := .start
    monitor := { debounce := .stopped, settled := false, holdUp := .stopped, dozeIdle := .stopped }
    link := .start Config.linkBase
    boot := .start false }

/-! ### Beginning a start-up (R76 to R81) -/

/-- The start-up record as it is opened (R76, R77). -/
def StartUpRecord.opened (cause : Cause) (storeResult : StoreResult) : StartUpRecord :=
  { cause := cause, copy := .none, generation := 0, validHeaders := 0, replayed := 0, skipped := 0, incomplete := 0,
    programmed := 0, cutOff := 0, storeResult := storeResult }

/-- The response a start-up begins with (R161): after RESTART and STORE the DONE of the command, else NOTHING. -/
def Cause.response : Cause → Response
  | .restart => { status := .done, data := [] }
  | .store => { status := .done, data := [] }
  | .powerOn => .nothing
  | .resetLine => .nothing
  | .supplyRecovery => .nothing

/-- The array controller at the beginning of a start-up: WAKING, the wake timer not yet running, APWR as it was
(R77, R109). -/
def Port.starting (p : Port) : Port := { Port.start with power := .waking, apwr := p.apwr }

/-- The start values of R77, with the link address sampled (R160). How a held access ends is `completeEarly`. The byte of
a read that has completed stays on UD until the host's release, over a start-up too; a start-up from reset or DOWN finds
UD let go already (R115, log 23). -/
def State.startValues (cause : Cause) (storeResult : StoreResult) (s : State) : State :=
  { s with
    control := { mode := some .starting, fault := none, retryOwner := none, retrying := false }
    upstream := { Upstream.start with result := if s.awake then s.upstream.result else none }
    groups := .start
    lines := []
    journal := .start
    cursor := none
    port := s.port.starting
    monitor := { s.monitor with holdUp := .stopped, dozeIdle := .stopped }
    outcomes := .start
    link := { Link.start (Config.linkBase + s.pins.lad.setWidth 7) with response := cause.response }
    boot :=
      { record := some (.opened cause storeResult), step := .pfiWait, headers := [], toReplay := [], active := none,
        startedSinceSupply := true } }

/-- An access that was held when the start-up began is completed as an early access, counted after the counters have
been cleared (R79). -/
def State.completeEarly (held : Option Access) (s : State) : State :=
  match held with
  | none => s
  | some a =>
    match a.stage with
    | .heldWrite _ _ _ _ => (s.refuseWrite .mode).countEarly
    | .heldRead _ _ _ => (s.serveRead Config.fillByte).countEarly
    | .begun => s

/-- The start-up's wait for a settled PFI ends: APWR is driven high and the fixed 20 ms wake starts (R80, R81). -/
def State.beginWake (s : State) : State :=
  { s with
    port := { s.port with power := .waking, apwr := true, wakeTimer := .running Config.startUpWakeTime }
    boot := { s.boot with step := .waking } }

/-- A start-up begins (R76). If PFI is settled already there is no wait (R80). -/
def State.beginStartUp (cause : Cause) (storeResult : StoreResult) (s : State) : State :=
  let t := (s.startValues cause storeResult).completeEarly s.upstream.access
  if t.monitor.settled then t.beginWake else t

/-! ### DOZING (R143) -/

/-- Entry into DOZING (R143). -/
def State.enterDozing (s : State) : State := (s.powerOff.stopDozeTimer).setMode .dozing

/-! ### DRAINING (R172) -/

/-- Entry into DRAINING (R172): the doze idle timer stops and the ambient group is sealed. -/
def State.enterDraining (drain : Drain) (s : State) : State :=
  let t := (s.stopDozeTimer).setMode .draining
  State.requestSeal { t with link := { t.link with drain := drain } }

/-! ### HALTED (R149, R89) -/

/-- A fault record is written and its retry owner noted (R147). -/
def State.recordFault (fault : FaultRecord) (owner : RetryOwner) (s : State) : State :=
  { s with control := { s.control with fault := some fault, retryOwner := some owner } }

/-- A held write is refused with reason MODE; an explicit one loses its OPEN or DEFERRED group (R32, R126). -/
def State.refuseHeldWrite (s : State) : State :=
  match s.upstream.access with
  | none => s
  | some a =>
    match a.stage with
    | .heldWrite _ _ _ _ => s.refuseAndLose .mode
    | .heldRead _ _ _ => s
    | .begun => s

/-- Entry into HALTED from RUNNING or DRAINING (R149): the fault is recorded, a held write ends, the ambient group is
sealed and a drain is abandoned. The other engine's request lapses with the mode. -/
def State.enterHalted (fault : FaultRecord) (owner : RetryOwner) (s : State) : State :=
  let t := (((s.recordFault fault owner).stopDozeTimer).endDrain).setMode .halted
  { t with control := { t.control with retrying := false } }.refuseHeldWrite.sealAmbient

/-- A start-up halts with its progress kept (R89). -/
def State.haltStartUp (fault : FaultRecord) (s : State) : State :=
  let t := (s.recordFault fault .startUp).setMode .halted
  { t with control := { t.control with retrying := false } }

/-! ### HOLDUP (R132) -/

/-- The hold-up budget timer as it starts; a budget of 0 has expired in the event of the entry (R133). -/
def State.startBudget (s : State) : State :=
  { s with
    monitor :=
      { s.monitor with holdUp := if s.config.holdUp = 0 then .expired else .running s.config.holdUp } }

/-- A read held for an array read that is not yet granted completes as an unserved read (R126, R132). -/
def State.withdrawHeldRead (s : State) : State :=
  match s.upstream.access with
  | none => s
  | some a =>
    match a.stage with
    | .heldRead _ _ false => s.leaveUnserved
    | .heldRead _ _ true => s
    | .heldWrite _ _ _ _ => s
    | .begun => s

/-- A program of the apply engine or of the link unit that waits behind a read in the read slot is withdrawn: the read
runs to its end and no further attempt is made (R99, R104, log 18). The journal engine's stands (R99, R113). -/
def State.withdrawSuspended (s : State) : State :=
  { s with port := { s.port with suspended := s.port.suspended.filter fun op => op.requester == .journal } }

/-- Entry into HOLDUP (R132): the unsealed groups are lost, then a held write is refused and an ungranted read ends
unserved; a program behind a slot read is withdrawn (R104), the drain is abandoned (R135) and the budget starts
(R133). -/
def State.enterHoldup (s : State) : State :=
  let t := ((s.stopDozeTimer).endDrain).setMode .holdup
  let u := { t with journal := { t.journal with declined := false, stopped := false } }
  (((((u.loseExplicit).loseAmbient).refuseHeldWrite).withdrawHeldRead).withdrawSuspended).startBudget

end Sys2Proof.Machine
end

