-- ==== Sys2Proof/Machine/Journal.lean ====
section
/-! DEFINITION. The journal engine (spec/03_the_journal.md): taking a group, the positions of a record, and the passed
commit. -/

namespace Sys2Proof.Machine

/-! ### Turn and allocation (R49 to R52, R62) -/

/-- The group is DURABLE or APPLYING, or LOST and so passed over (R49). -/
def Group.isPast (g : Group) : Bool :=
  match g.state with
  | .durable => true
  | .applying => true
  | .lost => true
  | .opened => false
  | .gathering => false
  | .sealed => false
  | .journaling => false

/-- The SEALED group whose turn it is: no record is in progress and every older group is DURABLE or APPLYING; LOST
entries are passed over (R49). -/
def State.turn (s : State) : Option Group :=
  if s.journal.record.isSome then none
  else
    match s.groups.table.find? fun g => !g.isPast with
    | none => none
    | some g => if g.state = .sealed then some g else none

/-- The modes in which a group is taken (R49); in HOLDUP none after a declined group or a failure (R62, R135). -/
def State.takesTurns (s : State) : Bool :=
  s.inMode .running || s.inMode .draining || (s.inMode .holdup && !s.journal.declined && !s.journal.stopped)

/-- A group becomes DURABLE: its state, the youngest durable sequence, its outcome and the counter (R50, R58). -/
def State.becomeDurable (group : Nat) (s : State) : State :=
  let t := s.setGroupState group .durable
  State.countDurable
    (State.postOutcome (.group group) .durable { t with journal := { t.journal with durable := group } })

/-- The header of a group's record, with RETIRED-THROUGH taken now (R47). -/
def State.headerOf (s : State) (g : Group) : PageBytes :=
  composeHeader g.sequence (s.lineCount g.sequence) g.kind s.journal.retired
    ((s.lineList g.sequence).map fun l => l.page)

/-- The group is allocated its record: n + 2 pages at the tail (R51). -/
def State.allocateRecord (g : Group) (s : State) : State :=
  let pages := s.lineCount g.sequence + 2
  let t := s.setGroupState g.sequence .journaling
  { t with
    journal :=
      { t.journal with
        tail := s.config.advance s.journal.tail pages
        inUse := s.journal.inUse + pages
        record :=
          some
            { group := g.sequence, firstPage := s.journal.tail, position := .header, pagesDone := 0,
              header := s.headerOf g, check := checkStart } } }

/-- The record of n lines fits in the ring (R51). -/
def State.spaceFor (s : State) (lines : Nat) : Bool := decide (lines + 2 ≤ s.freePages)

/-- The remaining hold-up budget covers a record of n lines (R62). -/
def State.budgetFor (s : State) (lines : Nat) : Bool :=
  decide ((lines + 2) * s.config.programLimit ≤ s.monitor.holdUp.left)

/-- A group is declined for the rest of this HOLDUP (R62). -/
def State.declineGroup (s : State) : State := { s with journal := { s.journal with declined := true } }

/-- The group whose turn has come is taken, if it can be (R50, R51, R62). -/
def State.turnStep (s : State) : Option State :=
  if s.takesTurns then
    match s.turn with
    | none => none
    | some g =>
      let n := s.lineCount g.sequence
      if n = 0 then some (s.becomeDurable g.sequence)
      else if s.inMode .holdup then
        if s.spaceFor n && s.budgetFor n then some (s.allocateRecord g) else some s.declineGroup
      else if s.spaceFor n then some (s.allocateRecord g)
      else none
  else none

/-! ### Positions (R54 to R58) -/

/-- The record moves to a position. -/
def State.moveRecord (position : Position) (s : State) : State :=
  match s.journal.record with
  | none => s
  | some r => { s with journal := { s.journal with record := some { r with position := position } } }

/-- The position of line k: COMPLETE, PROGRAM if the line is complete, or COMMIT after the last line (R54, R57). -/
def State.positionOfLine (s : State) (group k : Nat) : Position :=
  match s.lineOf group k with
  | none => .commit
  | some l => if l.isComplete then .program k else .complete k

/-- A page of the record has been programmed: the running check is taken over its bytes, pages done rises by 1, and
the position moves (R54, R57). -/
def State.recordPageDone (data : PageBytes) (next : Position) (s : State) : State :=
  match s.journal.record with
  | none => s
  | some r =>
    { s with
      journal :=
        { s.journal with
          record :=
            some
              { r with position := next, pagesDone := r.pagesDone + 1, check := checkOver r.check data } } }

/-- The commit page of the record in progress (R58). -/
def State.commitPage (s : State) (r : Record) : PageBytes :=
  composeCommit r.group (s.lineCount r.group) r.check

/-- The commit program has passed (R58): the record is over and the group DURABLE. -/
def State.endRecord (s : State) : State :=
  match s.journal.record with
  | none => s
  | some r => State.becomeDurable r.group { s with journal := { s.journal with record := none } }

/-- The completion merge into line k (R39, R55). -/
def State.mergeCompletion (group k : Nat) (source : PageBytes) (s : State) : State :=
  match s.lineOf group k with
  | none => s
  | some l => (s.completeLine group l.page source).moveRecord (.program k)

/-- A journal operation has passed; for a completion read, with the bytes read (R54, R55, R57, R58). -/
def State.journalPassed (data : PageBytes) (s : State) : State :=
  match s.journal.record with
  | none => s
  | some r =>
    match r.position with
    | .header => s.recordPageDone r.header (s.positionOfLine r.group 1)
    | .complete k => s.mergeCompletion r.group k data
    | .program k =>
      match s.lineOf r.group k with
      | none => s
      | some l => s.recordPageDone l.image (s.positionOfLine r.group (k + 1))
    | .commit => s.endRecord

/-- The journal engine works: not in HALTED, nor in HOLDUP after a failure or after the budget (R61, R62, R113, R135,
log 34). -/
def State.journalWorks (s : State) : Bool :=
  s.inMode .running || s.inMode .draining ||
    (s.inMode .holdup && !s.journal.stopped && s.monitor.holdUp != .expired)

/-- At COMPLETE k with an older line as the source, the line store merges at once (R55). -/
def State.completionStep (s : State) : Option State :=
  if s.journalWorks then
    match s.journal.record with
    | none => none
    | some r =>
      match r.position with
      | .complete k =>
        match s.lineOf r.group k with
        | none => none
        | some l =>
          match s.completionSource r.group l.page with
          | none => none
          | some source => some (s.mergeCompletion r.group k source.image)
      | .header => none
      | .program _ => none
      | .commit => none
  else none

/-- A group that is SEALED. -/
def Group.isSealed (g : Group) : Bool := g.state == .sealed

/-- The journal engine has nothing remaining in HOLDUP (R62, R135). -/
def State.journalIdle (s : State) : Bool :=
  s.journal.stopped ||
    (s.journal.record.isNone && (s.journal.declined || !s.groups.table.any Group.isSealed))

end Sys2Proof.Machine
end

