-- ==== Sys2Proof/Machine/Apply.lean ====
section
/-! DEFINITION. The apply engine (spec/04_apply_and_retire.md): taking a group, its home pages, and retire. -/

namespace Sys2Proof.Machine

/-- The release of a record (R53): the head advances by n + 2 and pages in use falls by as many; for an empty group
neither changes. -/
def State.releaseRecord (group lines : Nat) (s : State) : State :=
  if lines = 0 then { s with journal := { s.journal with retired := group } }
  else
    { s with
      journal :=
        { s.journal with
          head := s.config.advance s.journal.head (lines + 2)
          inUse := s.journal.inUse - (lines + 2)
          retired := group } }

/-- A group retires (R70): its lines, its record and its table entry are released in one event. -/
def State.retire (group : Nat) (s : State) : State :=
  State.freeEntry group { (s.freeLines group).releaseRecord group (s.lineCount group) with cursor := none }

/-- The oldest entry of the table, if it is DURABLE (R65). -/
def State.oldestDurable (s : State) : Option Group :=
  match s.groups.table with
  | [] => none
  | g :: _ => if g.state = .durable then some g else none

/-- A group is taken for apply in RUNNING and DRAINING; an empty one retires in the same event (R65, R66). -/
def State.applyStep (s : State) : Option State :=
  if s.cursor.isNone && (s.inMode .running || s.inMode .draining) then
    match s.oldestDurable with
    | none => none
    | some g =>
      let t := s.setGroupState g.sequence .applying
      if s.lineCount g.sequence = 0 then some (t.retire g.sequence)
      else some { t with cursor := some { group := g.sequence, line := 1 } }
  else none

/-- A home page has been programmed: the cursor advances, or the group retires (R67, R70). -/
def State.applyPassed (s : State) : State :=
  match s.cursor with
  | none => s
  | some c =>
    if c.line < s.lineCount c.group then { s with cursor := some { c with line := c.line + 1 } }
    else s.retire c.group

end Sys2Proof.Machine
end

