-- ==== Sys2Proof/Machine/StartUp.lean ====
section
/-! DEFINITION. The start-up unit (spec/05_start_up_and_replay.md): selection, scan, judgement, cut-off, replay, and
the two ends of a start-up. -/

namespace Sys2Proof.Machine

/-- The start-up record changes. -/
def State.withStartUpRecord (f : StartUpRecord → StartUpRecord) (s : State) : State :=
  { s with boot := { s.boot with record := s.boot.record.map f } }

/-- The start-up moves to a step. -/
def State.bootAt (step : BootStep) (s : State) : State := { s with boot := { s.boot with step := step } }

/-! ### The ends (R84, R92 to R94) -/

/-- The store result is a failure (R84, R94). -/
def StoreResult.isFailure : StoreResult → Bool
  | .formatFailed => true
  | .copyFailed => true
  | .none => false
  | .stored => false

/-- The start-up was begun by a STORE that failed (R165). -/
def State.storeHasFailed (s : State) : Bool :=
  match s.boot.record with
  | none => false
  | some r => r.cause == .store && r.storeResult.isFailure

/-- The current explicit group record at the end of a start-up, by the level of GRP# (R5). -/
def State.currentAtEnd (s : State) : Current := if s.pins.grp then .none else .refused

/-- What both ends of a start-up do: the mode, STARTED, STORE_FAILED, the fault record and the current explicit group
(R5, R84, R94, log 19), with the table empty and every line free as they have been since its beginning (R2, R26). The
start-up unit's working store is given up. -/
def State.finishStartUp (mode : Mode) (s : State) : State :=
  let failed := s.storeHasFailed
  let t := s.withFlags fun f => { f with started := true, storeFailed := f.storeFailed || failed }
  { t with
    control := { mode := some mode, fault := none, retryOwner := none, retrying := false }
    groups := { Groups.start with nextSequence := t.groups.nextSequence, current := s.currentAtEnd }
    lines := []
    monitor := { t.monitor with dozeIdle := .stopped }
    boot := { t.boot with step := .idle, headers := [], toReplay := [] } }

/-- Neither copy is valid: the start-up ends in BARE (R84). The next sequence there is 1. -/
def State.endInBare (s : State) : State :=
  State.finishStartUp .bare { s with groups := { s.groups with nextSequence := 1 } }

/-! ### The headers found (R85 to R87) -/

/-- The record of this header is complete. -/
def FoundHeader.isComplete (h : FoundHeader) : Bool := h.complete == some true

/-- The first header of each SEQUENCE in a list (R86). -/
def firstOfEach : List FoundHeader → List FoundHeader
  | [] => []
  | h :: rest => h :: (firstOfEach rest).filter fun g => g.sequence != h.sequence

/-- The complete records that are used: of each SEQUENCE the first complete one in scan order (R86). -/
def completeRecords (headers : List FoundHeader) : List FoundHeader :=
  firstOfEach (headers.filter FoundHeader.isComplete)

/-- The incomplete records (R86): one for each SEQUENCE that has been judged and has no complete record (log 28). -/
def incompleteRecords (headers : List FoundHeader) : List FoundHeader :=
  firstOfEach
    (headers.filter fun h =>
      h.complete == some false && !headers.any fun g => g.isComplete && g.sequence == h.sequence)

/-- The cut-off R (R87). -/
def cutOffOf (floor : Nat) (headers : List FoundHeader) : Nat :=
  match headers with
  | [] => floor - 1
  | h :: rest => rest.foldl (fun r g => max r g.retiredThrough) h.retiredThrough

/-- A record is inserted in ascending order of SEQUENCE (R88). -/
def insertRecord (h : FoundHeader) : List FoundHeader → List FoundHeader
  | [] => [h]
  | g :: rest => if h.sequence < g.sequence then h :: g :: rest else g :: insertRecord h rest

/-- The records above the cut-off, ascending in SEQUENCE (R87, R88). -/
def recordsToReplay (cutOff : Nat) (headers : List FoundHeader) : List FoundHeader :=
  ((completeRecords headers).filter fun h => decide (cutOff < h.sequence)).foldr insertRecord []

/-- The records at or below the cut-off (R87). -/
def recordsSkipped (cutOff : Nat) (headers : List FoundHeader) : List FoundHeader :=
  (completeRecords headers).filter fun h => decide (h.sequence ≤ cutOff)

/-- The header with the highest SEQUENCE of a list. -/
def youngestHeader : List FoundHeader → Option FoundHeader
  | [] => none
  | h :: rest =>
    match youngestHeader rest with
    | none => some h
    | some g => if g.sequence ≤ h.sequence then some h else some g

/-- The tail after a start-up (R92): the page after the commit page of the youngest complete record, or the base. -/
def tailAfter (c : Configuration) (headers : List FoundHeader) : Nat :=
  match youngestHeader (completeRecords headers) with
  | none => c.base
  | some h => c.advance h.page (h.lines + 2)

/-- The youngest retired sequence after a start-up (R92): the larger of R and the highest SEQUENCE replayed. -/
def retiredAfter (cutOff : Nat) (headers : List FoundHeader) : Nat :=
  (recordsToReplay cutOff headers).foldl (fun r h => max r h.sequence) cutOff

/-- The next sequence after a start-up (R93): the larger of the floor and one more than the highest SEQUENCE of any
valid header, and at most the exhausted value. -/
def nextSequenceAfter (floor : Nat) (headers : List FoundHeader) : Nat :=
  min Config.sequenceExhausted (headers.foldl (fun n h => max n (h.sequence + 1)) floor)

/-- The start-up ends in RUNNING: ring state, next sequence, mode and flags (R92 to R94). -/
def State.endInRunning (s : State) : State :=
  let c := s.config
  let headers := s.boot.headers
  let cutOff := (s.boot.record.map fun r => r.cutOff).getD 0
  let retired := retiredAfter cutOff headers
  State.finishStartUp .running
    { s with
      groups := { s.groups with nextSequence := nextSequenceAfter c.floor headers }
      journal :=
        { s.journal with
          head := tailAfter c headers
          tail := tailAfter c headers
          inUse := 0
          retired := retired
          durable := retired } }

/-! ### The steps (R81 to R88) -/

/-- The configuration selected from the images of the valid copies (R83). -/
def selectCopy : Option PageBytes → Option PageBytes → Option (Copy × PageBytes)
  | none, none => none
  | some a, none => some (.a, a)
  | none, some b => some (.b, b)
  | some a, some b =>
    if (Configuration.parse a).generation < (Configuration.parse b).generation then some (.b, b) else some (.a, a)

/-- An image that is a valid copy (R82). A torn copy, or one whose program failed, is none (R82, R159,
log 4). -/
def judgeCopy (undefined : Bool) (image : PageBytes) : Option PageBytes :=
  if !undefined && validCopy image then some image else none

/-- Both copies have been judged: one is selected and the scan begins, or the start-up ends in BARE (R83, R84). -/
def State.selectConfiguration (copyA copyB : Option PageBytes) (s : State) : State :=
  match selectCopy copyA copyB with
  | none => s.endInBare
  | some (copy, image) =>
    let t := s.withStartUpRecord fun r =>
      { r with copy := copy, generation := (Configuration.parse image).generation }
    State.bootAt (.scan 0) { t with boot := { t.boot with active := some image } }

/-- The next record to replay is begun, or the start-up ends (R88, R92). -/
def State.nextReplay (s : State) : State :=
  match s.boot.toReplay with
  | [] => s.endInRunning
  | _ :: _ => s.bootAt (.replayRead 1)

/-- Every record has been judged: the cut-off is set and the records are sorted (R87). -/
def State.setCutOff (s : State) : State :=
  let headers := s.boot.headers
  let cutOff := cutOffOf s.config.floor headers
  let t := s.withStartUpRecord fun r =>
    { r with cutOff := cutOff, skipped := (recordsSkipped cutOff headers).length }
  State.nextReplay { t with boot := { t.boot with toReplay := recordsToReplay cutOff headers } }

/-- The i-th header's record is judged next, or the cut-off is set after the last (R86). -/
def State.judgeFrom (i : Nat) (s : State) : State :=
  match s.boot.headers[i]? with
  | none => s.setCutOff
  | some h => s.bootAt (.judge i 1 h.check)

/-- The valid header that a page of the region holds, if it holds one (R85). A torn page holds none (R54, R63, log 4). -/
def State.headerAt (s : State) (page : Nat) (data : PageBytes) : Option FoundHeader :=
  if s.device.isUndefined page then none else judgeHeader s.config page data

/-- Page k of the region has been read and is judged as a possible header (R85). -/
def State.scanned (k : Nat) (data : PageBytes) (s : State) : State :=
  let c := s.config
  let t :=
    match s.headerAt (c.base + k) data with
    | none => s
    | some h =>
      let u := s.withStartUpRecord fun r => { r with validHeaders := r.validHeaders + 1 }
      { u with boot := { u.boot with headers := u.boot.headers ++ [h] } }
  if k + 1 < c.length then t.bootAt (.scan (k + 1)) else t.judgeFrom 0

/-- The i-th header's record has been judged (R86). -/
def State.recordJudged (i : Nat) (complete : Bool) (s : State) : State :=
  let headers := s.boot.headers.modify i fun h => { h with complete := some complete }
  let t := { s with boot := { s.boot with headers := headers } }
  (t.withStartUpRecord fun r => { r with incomplete := (incompleteRecords headers).length }).judgeFrom (i + 1)

/-- None of a record's image pages and not its commit page holds undefined bytes: a record with a torn page, or with a
page whose program failed, is incomplete (R61, R63, R96, log 4). -/
def State.recordIntact (s : State) (h : FoundHeader) : Bool :=
  (List.range (h.lines + 1)).all fun j => !s.device.isUndefined (s.config.advance h.page (j + 1))

/-- Page j of the i-th header's record has been read (R86). -/
def State.judged (i j : Nat) (check : CheckWord) (data : PageBytes) (s : State) : State :=
  match s.boot.headers[i]? with
  | none => s
  | some h =>
    if j ≤ h.lines then s.bootAt (.judge i (j + 1) (checkOver check data))
    else s.recordJudged i (s.recordIntact h && judgeCommit h check data)

/-- Image k of the record being replayed has been programmed home (R88). -/
def State.replayed (k : Nat) (s : State) : State :=
  let t := s.withStartUpRecord fun r => { r with programmed := r.programmed + 1 }
  match t.boot.toReplay with
  | [] => t
  | h :: rest =>
    if k < h.lines then t.bootAt (.replayRead (k + 1))
    else
      let u := t.withStartUpRecord fun r => { r with replayed := r.replayed + 1 }
      State.nextReplay { u with boot := { u.boot with toReplay := rest } }

/-- An operation of the start-up has passed, on this page; for a read, with the bytes read (R81 to R88). -/
def State.startUpPassed (page : Nat) (data : PageBytes) (s : State) : State :=
  match s.boot.step with
  | .readCopyA => s.bootAt (.readCopyB (judgeCopy (s.device.isUndefined page) data))
  | .readCopyB copyA => s.selectConfiguration copyA (judgeCopy (s.device.isUndefined page) data)
  | .scan k => s.scanned k data
  | .judge i j check => s.judged i j check data
  | .replayRead k => s.bootAt (.replayProgram k data)
  | .replayProgram k _ => s.replayed k
  | .idle => s
  | .pfiWait => s
  | .waking => s

end Sys2Proof.Machine
end

