-- ==== Sys2Proof/Machine/Store.lean ====
section
/-! DEFINITION. The procedure of a drain (spec/10_the_maintenance_link.md, R171 to R177): its end, the format and the
copy of a configuration store. -/

namespace Sys2Proof.Machine

/-- The region a STORE names is the active one (R171); never in BARE, where none is active. -/
def State.sameRegion (s : State) (fields : List Byte) : Bool :=
  match s.boot.active with
  | none => false
  | some image =>
    (Configuration.parse image).base == (parseStoreFields fields).base &&
      (Configuration.parse image).length == (parseStoreFields fields).length

/-- A page lies in both the active region and the one a STORE names (R171). -/
def State.regionsOverlap (s : State) (fields : List Byte) : Bool :=
  match s.boot.active with
  | none => false
  | some image =>
    let old := Configuration.parse image
    let new := parseStoreFields fields
    decide (max old.base new.base < min (old.base + old.length) (new.base + new.length))

/-- The generation a new copy carries: one more than the active one, or 1 from BARE (R176). -/
def State.nextGeneration (s : State) : Nat :=
  match s.boot.active with
  | none => 1
  | some image => (Configuration.parse image).generation + 1

/-- The active generation is at its maximum, so no copy can exceed it (R171). -/
def State.generationExhausted (s : State) : Bool :=
  match s.boot.active with
  | none => false
  | some image => decide (Config.counterMax ≤ (Configuration.parse image).generation)

/-- The sequence floor a new copy carries: the next sequence, at most 2^48 - 2, or 1 from BARE (R176). -/
def State.nextFloor (s : State) : Nat :=
  match s.boot.active with
  | none => 1
  | some _ => min s.groups.nextSequence (Config.sequenceExhausted - 1)

/-- The slot that does not hold the active copy (R176). -/
def State.copySlot (s : State) : Nat :=
  match s.boot.record with
  | none => Config.copyAPage
  | some r =>
    match r.copy with
    | .a => Config.copyBPage
    | .b => Config.copyAPage
    | .none => Config.copyAPage

/-- The new copy (R176). -/
def State.newCopy (s : State) (fields : List Byte) : PageBytes := composeCopy s.nextGeneration s.nextFloor fields

/-- The drain record changes. -/
def State.withDrain (drain : Drain) (s : State) : State := { s with link := { s.link with drain := drain } }

/-- The conditions that end a drain (R173). -/
def State.drained (s : State) : Bool :=
  s.inMode .draining && s.groups.table.isEmpty && s.pins.grp && s.outcomes.queue.isEmpty

/-- The end of a drain (R173): the start-up, the format with the read buffer invalidated (R175), or the copy. -/
def State.drainStep (s : State) : Option State :=
  if s.drained then
    match s.link.drain with
    | .restart => some (s.beginStartUp .restart .none)
    | .store fields .drain =>
      if s.sameRegion fields then some (s.withDrain (.store fields .copy))
      else
        some
          (State.withDrain (.store fields (.format (parseStoreFields fields).base))
            { s with upstream := { s.upstream with buffer := none } })
    | .store _ (.format _) => none
    | .store _ .copy => none
    | .none => none
  else none

/-- A program of the store has ended (R175 to R177, R159). In another mode the drain is gone and the result is
discarded (R135). -/
def State.storeProgramEnded (passed : Bool) (s : State) : State :=
  match s.link.drain with
  | .store fields (.format page) =>
    if passed then
      if page + 1 < (parseStoreFields fields).base + (parseStoreFields fields).length then
        s.withDrain (.store fields (.format (page + 1)))
      else s.withDrain (.store fields .copy)
    else s.beginStartUp .store .formatFailed
  | .store _ .copy => s.beginStartUp .store (if passed then .stored else .copyFailed)
  | .store _ .drain => s
  | .restart => s
  | .none => s

end Sys2Proof.Machine
end

