-- ==== Sys2Proof/Machine/Port.lean ====
section
/-! DEFINITION. The array controller (spec/06_the_array_port.md): requests, arbiter, the operation in flight, and what
each requester does with a result (R148). -/

namespace Sys2Proof.Machine

/-! ### Requests (R98, R99): computed from the requesters' states (log 21) -/

/-- A request: a page read, or a page program with its 64 bytes. -/
structure Request where
  kind : OpKind
  page : Nat
  data : PageBytes
  deriving DecidableEq, Repr

/-- A request to read a page. -/
def Request.read (page : Nat) : Request := { kind := .pageRead, page := page, data := [] }

/-- A request to program a page. -/
def Request.program (page : Nat) (data : PageBytes) : Request := { kind := .pageProgram, page := page, data := data }

/-- The requester repeats its failed operation after a RESUME (R154). -/
def State.retries (s : State) (owner : RetryOwner) : Bool :=
  s.inMode .halted && s.control.retrying && s.control.retryOwner == some owner

/-- The read path's request: the read held for the array and not yet granted (R123). -/
def State.readRequest (s : State) : Option Request :=
  match s.upstream.access with
  | none => none
  | some a =>
    match a.stage with
    | .heldRead page _ false => some (.read page)
    | .heldRead _ _ true => none
    | .heldWrite _ _ _ _ => none
    | .begun => none

/-- The operation of the record's position (R54, R55, R57, R58). At COMPLETE k with an older line as the source there
is none. -/
def State.recordRequest (s : State) (r : Record) : Option Request :=
  match r.position with
  | .header => some (.program r.firstPage r.header)
  | .complete k =>
    match s.lineOf r.group k with
    | none => none
    | some l => if (s.completionSource r.group l.page).isSome then none else some (.read l.page)
  | .program k =>
    match s.lineOf r.group k with
    | none => none
    | some l => some (.program (s.config.advance r.firstPage k) l.image)
  | .commit =>
    some (.program (s.config.advance r.firstPage (s.lineCount r.group + 1)) (s.commitPage r))

/-- The journal engine's request, in the modes in which it makes one (R61, R62, R113). -/
def State.journalRequest (s : State) : Option Request :=
  if s.journalWorks || s.retries .journal then
    match s.journal.record with
    | none => none
    | some r => s.recordRequest r
  else none

/-- The apply engine's request (R67), in the modes in which it makes one (R73, R74). -/
def State.applyRequest (s : State) : Option Request :=
  if s.inMode .running || s.inMode .draining || s.retries .apply then
    match s.cursor with
    | none => none
    | some c =>
      match s.lineOf c.group c.line with
      | none => none
      | some l => some (.program l.page l.image)
  else none

/-- The operation of the start-up's step (R81, R85, R86, R88). -/
def State.stepRequest (s : State) : Option Request :=
  match s.boot.step with
  | .readCopyA => some (.read Config.copyAPage)
  | .readCopyB _ => some (.read Config.copyBPage)
  | .scan k => some (.read (s.config.base + k))
  | .judge i j _ =>
    match s.boot.headers[i]? with
    | none => none
    | some h => some (.read (s.config.advance h.page j))
  | .replayRead k =>
    match s.boot.toReplay with
    | [] => none
    | h :: _ => some (.read (s.config.advance h.page k))
  | .replayProgram k image =>
    match s.boot.toReplay with
    | [] => none
    | h :: _ =>
      match h.pages[k - 1]? with
      | none => none
      | some page => some (.program page image)
  | .idle => none
  | .pfiWait => none
  | .waking => none

/-- The start-up unit's request (R111, R114). -/
def State.startUpRequest (s : State) : Option Request :=
  if s.inMode .starting || s.retries .startUp then s.stepRequest else none

/-- The link unit's request: the next format program or the copy program (R175, R176). -/
def State.linkRequest (s : State) : Option Request :=
  if s.inMode .draining then
    match s.link.drain with
    | .store _ (.format page) => some (.program page (List.replicate Config.pageSize 0#8))
    | .store fields .copy => some (.program s.copySlot (s.newCopy fields))
    | .store _ .drain => none
    | .restart => none
    | .none => none
  else none

/-! ### The arbiter (R110 to R114) -/

/-- The request becomes the operation in flight, with its attempt count at 0 (R98). -/
def State.grant (requester : Requester) (q : Request) (s : State) : State :=
  { s with
    port :=
      { s.port with
        inFlight :=
          some
            { requester := requester, kind := q.kind, page := q.page, data := q.data, attempts := 0,
              phase := .start } } }

/-- The held read's request has been granted (R121). -/
def State.markGranted (s : State) : State :=
  match s.upstream.access with
  | none => s
  | some a =>
    match a.stage with
    | .heldRead page offset _ =>
      { s with
        upstream := { s.upstream with access := some { a with stage := .heldRead page offset true } } }
    | .heldWrite _ _ _ _ => s
    | .begun => s

/-- The read path is granted. -/
def State.grantRead (q : Request) (s : State) : State := s.markGranted.grant .readPath q

/-- The journal engine is granted; the fairness count rises if an apply request waits (R112). -/
def State.grantJournal (q : Request) (s : State) : State :=
  let t := s.grant .journal q
  if s.applyRequest.isSome then
    { t with port := { t.port with fairness := min Config.fairnessLimit (t.port.fairness + 1) } }
  else t

/-- The apply engine is granted; the fairness count returns to 0 (R112). -/
def State.grantApply (q : Request) (s : State) : State :=
  let t := s.grant .apply q
  { t with port := { t.port with fairness := 0 } }

/-- The array is free and ON (R110, R111). -/
def State.arrayFree (s : State) : Bool :=
  s.port.power == .on && s.port.inFlight.isNone && s.port.suspended.isNone

/-- Apply has waited through eight journal grants (R112). -/
def State.applyFirst (s : State) : Bool :=
  s.applyRequest.isSome && decide (Config.fairnessLimit ≤ s.port.fairness)

/-- The arbiter grants one waiting request in its order (R111). -/
def State.arbiterStep (s : State) : Option State :=
  if s.arrayFree then
    match s.readRequest with
    | some q => if s.inMode .holdup then none else some (s.grantRead q)
    | none =>
      match if s.applyFirst then none else s.journalRequest with
      | some q => some (s.grantJournal q)
      | none =>
        match s.applyRequest with
        | some q => some (s.grantApply q)
        | none =>
          match s.startUpRequest with
          | some q => some (s.grant .startUp q)
          | none => s.linkRequest.map fun q => s.grant .link q
  else none

/-! ### Results (R148) -/

/-- How an operation ends (R98). -/
inductive OperationResult
  /-- PASS, with the bytes of a read. -/
  | pass (data : PageBytes)
  | fail
  | timeout
  deriving DecidableEq, Repr

/-- The sequence a fault of the requester names (R60, R72, R89). -/
def State.faultSequence (s : State) (requester : Requester) : Nat :=
  match requester with
  | .journal => (s.journal.record.map fun r => r.group).getD 0
  | .apply => (s.cursor.map fun c => c.group).getD 0
  | .startUp =>
    match s.boot.step, s.boot.toReplay with
    | .replayRead _, h :: _ => h.sequence
    | .replayProgram _ _, h :: _ => h.sequence
    | _, _ => 0
  | .readPath => 0
  | .link => 0

/-- The kind of a fault (R60, R72, R89). -/
def faultKindFor (requester : Requester) (result : OperationResult) : FaultKind :=
  match result, requester with
  | .fail, .journal => .journalFail
  | .fail, .apply => .applyFail
  | .fail, .startUp => .replayFail
  | _, _ => .arrayTimeout

/-- The fault record of a failed operation (R147). -/
def State.faultOf (s : State) (op : Operation) (result : OperationResult) : FaultRecord :=
  { kind := faultKindFor op.requester result, operation := op.kind, page := op.page,
    sequence := s.faultSequence op.requester }

/-- A retry has passed outside a start-up: RUNNING again, with the doze idle timer started (R155). -/
def State.resumeRunning (s : State) : State :=
  State.startDozeTimer { s with control := { s.control with mode := some .running, retrying := false } }

/-- A retry has passed in a halted start-up: STARTING again, with the outcome queue emptied and the current explicit
group cleared (R90). -/
def State.resumeStartUp (s : State) : State :=
  let t := s.emptyOutcomes
  { t with
    control := { t.control with mode := some .starting, retrying := false }
    groups := { t.groups with current := .none, openingWaits := false, sealWaits := false, noted := [] } }

/-- A retry has failed: the kind of the fault is updated and no retry is under way (R156). -/
def State.retryFailed (kind : FaultKind) (s : State) : State :=
  { s with
    control :=
      { s.control with fault := s.control.fault.map fun f => { f with kind := kind }, retrying := false } }

/-- A failed operation of the journal engine or the apply engine, by the mode (R60, R72, R74, R135, R156). -/
def State.engineFailed (owner : RetryOwner) (op : Operation) (result : OperationResult) (s : State) : State :=
  match s.control.mode with
  | some .running => s.enterHalted (s.faultOf op result) owner
  | some .draining => s.enterHalted (s.faultOf op result) owner
  | some .halted => s.retryFailed (faultKindFor op.requester result)
  | some .holdup =>
    let t := s.recordFault (s.faultOf op result) owner
    if owner = .journal then { t with journal := { t.journal with stopped := true } } else t
  | some .starting => s
  | some .bare => s
  | some .dozing => s
  | some .down => s
  | none => s

/-- A failed operation of the start-up unit (R89, R156). -/
def State.startUpFailed (op : Operation) (result : OperationResult) (s : State) : State :=
  if s.inMode .halted then s.retryFailed (faultKindFor op.requester result)
  else s.haltStartUp (s.faultOf op result)

/-- A read of the read path has passed: the buffer takes the page, and the access that waits for it completes
(R123, R125). -/
def State.readPassed (page : Nat) (data : PageBytes) (s : State) : State :=
  let t := { s with upstream := { s.upstream with buffer := some { page := page, data := data } } }
  match s.upstream.access with
  | some { explicit := _, stage := .heldRead _ offset true } => t.serveRead (byteAt data offset)
  | _ => t

/-- A read of the read path has timed out (R101, R123). -/
def State.readTimedOut (s : State) : State :=
  match s.upstream.access with
  | some { explicit := _, stage := .heldRead _ _ true } => s.leaveUnserved
  | _ => s

/-- The result is handed to the requester (R98, R148). A pass of a retry first ends the HALTED mode (R155). -/
def State.handOver (op : Operation) (result : OperationResult) (s : State) : State :=
  match op.requester, result with
  | .readPath, .pass data => s.readPassed op.page data
  | .readPath, .fail => s.readTimedOut
  | .readPath, .timeout => s.readTimedOut
  | .journal, .pass data => (if s.inMode .halted then s.resumeRunning else s).journalPassed data
  | .journal, .fail => s.engineFailed .journal op result
  | .journal, .timeout => s.engineFailed .journal op result
  | .apply, .pass _ => (if s.inMode .halted then s.resumeRunning else s).applyPassed
  | .apply, .fail => s.engineFailed .apply op result
  | .apply, .timeout => s.engineFailed .apply op result
  | .startUp, .pass data => (if s.inMode .halted then s.resumeStartUp else s).startUpPassed op.page data
  | .startUp, .fail => s.startUpFailed op result
  | .startUp, .timeout => s.startUpFailed op result
  | .link, .pass _ => s.storeProgramEnded true
  | .link, .fail => s.storeProgramEnded false
  | .link, .timeout => s.storeProgramEnded false

/-- The operation in flight ends (R98): its end is an activity event (R141), a program suspended for a read in the
read slot is taken up again (R104), and the result is handed over. -/
def State.endOperation (op : Operation) (result : OperationResult) (s : State) : State :=
  State.handOver op result
    (State.activity
      { s with port := { s.port with inFlight := s.port.suspended, suspended := none, opTimer := .stopped } })

/-! ### Running an operation (R100 to R105) -/

/-- The operation in flight changes. -/
def State.withOperation (op : Operation) (s : State) : State := { s with port := { s.port with inFlight := some op } }

/-- The operation timer starts with the program time limit in force (R106). -/
def State.startOpTimer (s : State) : State :=
  { s with port := { s.port with opTimer := .running s.config.programLimit } }

/-- The first attempt of a program of page p invalidates the read buffer if it holds p (R105). -/
def State.invalidateBuffer (page : Nat) (s : State) : State :=
  match s.upstream.buffer with
  | none => s
  | some b => if b.page = page then { s with upstream := { s.upstream with buffer := none } } else s

/-- LATCH and its STATUS; with the latch set, PAGE PROGRAM (R102). With the latch clear nothing is sent, and the page
keeps its bytes, also where that is the third failed attempt (log 43). -/
def State.sendProgram (op : Operation) (s : State) : State :=
  let fault := s.device.nextFault
  let d := s.device.afterStatus
  if fault.latchClear then
    State.withOperation { op with phase := .failed } { s with device := { d with latch := false } }
  else
    (State.withOperation { op with phase := .transfer }
      { s with device := { d with latch := false, program := some { page := op.page, data := op.data, overrun := false } } }).startOpTimer

/-- The ready check has passed: PAGE READ, or LATCH and PAGE PROGRAM (R101, R102). -/
def State.proceed (op : Operation) (s : State) : State :=
  match op.kind with
  | .pageRead => s.withOperation { op with phase := .transfer }
  | .pageProgram => s.sendProgram op

/-- The ready check (R100): STATUS, and the operation timer while busy is set. -/
def State.readyCheck (op : Operation) (s : State) : State :=
  let busy := s.device.busy || s.device.nextFault.busy
  let t := { s with device := s.device.afterStatus }
  if busy then (t.withOperation { op with phase := .readyCheck }).startOpTimer else t.proceed op

/-- The read, or the next attempt of the program, begins (R101, R102). -/
def State.beginAttempt (op : Operation) (s : State) : State :=
  match op.kind with
  | .pageRead => s.readyCheck op
  | .pageProgram =>
    let t := if op.attempts = 0 then s.invalidateBuffer op.page else s
    t.readyCheck { op with attempts := op.attempts + 1 }

/-- The read that may take the read slot of a program: one that waits, of another page (R104). -/
def State.slotRead (s : State) (op : Operation) : Option Request :=
  if s.inMode .holdup || s.inMode .starting then none
  else
    match s.readRequest with
    | none => none
    | some q => if q.page = op.page then none else some q

/-- An attempt has failed (R103): the program retries, after the read slot if a read takes it, or ends with FAIL. -/
def State.attemptFailed (op : Operation) (s : State) : State :=
  if op.attempts < Config.maxAttempts then
    let t := s.countRetry
    match t.slotRead op with
    | none => t.withOperation { op with phase := .start }
    | some q =>
      let u := { t with port := { t.port with suspended := some { op with phase := .start } } }
      u.grantRead q
  else s.endOperation op .fail

/-- What the operation in flight does at once. -/
def State.operationStep (s : State) : Option State :=
  match s.port.inFlight with
  | none => none
  | some op =>
    match op.phase with
    | .start => some (s.beginAttempt op)
    | .failed => some (s.attemptFailed op)
    | .readyCheck => none
    | .transfer => none

end Sys2Proof.Machine
end

