-- ==== Sys2Proof/Machine/Settle.lean ====
section
/-! DEFINITION. What follows from a command within its own event: the parts of the controller act one after another
until none has anything to do (log 7). -/

namespace Sys2Proof.Machine

/-- With no operation in flight and the budget expired or nothing left to journal, HOLDUP ends in DOWN (R136). -/
def State.downStep (s : State) : Option State :=
  if s.inMode .holdup && s.port.inFlight.isNone && s.port.suspended.isNone &&
      (s.monitor.holdUp == .expired || s.journalIdle) then some s.enterDown
  else none

/-- The conditions of doze beside the timer (R142). With the table empty and no access there is no request. -/
def State.idle (s : State) : Bool :=
  s.groups.table.isEmpty && s.outcomes.queue.isEmpty && s.port.inFlight.isNone && s.port.suspended.isNone &&
    s.upstream.access.isNone && s.pins.grp && s.link.taken.isNone

/-- The doze idle timer has expired and the part is idle: DOZING (R142, log 24). -/
def State.dozeStep (s : State) : Option State :=
  if s.inMode .running && s.monitor.dozeIdle == .expired && s.idle then some s.enterDozing else none

/-- The next thing that happens by itself, if there is one. Where two could, the spec leaves the order open
(R8, R52, R70) and this is the model's (log 7): what waits for a write, the waiting write, the claimant of an entry, the
operation in flight, the engines, the arbiter, then the changes of mode. -/
def State.micro (s : State) : Option State :=
  match s.edgeStep with
  | some t => some t
  | none =>
  match s.lineStep with
  | some t => some t
  | none =>
  match s.claimStep with
  | some t => some t
  | none =>
  match s.operationStep with
  | some t => some t
  | none =>
  match s.completionStep with
  | some t => some t
  | none =>
  match s.turnStep with
  | some t => some t
  | none =>
  match s.applyStep with
  | some t => some t
  | none =>
  match s.arbiterStep with
  | some t => some t
  | none =>
  match s.drainStep with
  | some t => some t
  | none =>
  match s.downStep with
  | some t => some t
  | none => s.dozeStep

/-- At most n things happen by themselves. -/
def State.settleFor : Nat → State → State
  | 0, s => s
  | n + 1, s =>
    match s.micro with
    | none => s
    | some t => State.settleFor n t

/-- How many things can happen by themselves within one command: more than enough for what the table, the noted
edges, the outcome queue and the faulty STATUS answers can give rise to (log 7). -/
def State.settleFuel (s : State) : Nat :=
  64 + 8 * (s.groups.noted.length + s.groups.table.length + s.outcomes.queue.length + s.device.statusFaults.length)

/-- Everything that follows at once has happened. -/
def State.settle (s : State) : State := State.settleFor s.settleFuel s

end Sys2Proof.Machine
end

