-- ==== Sys2Proof/Machine/Supply.lean ====
section
/-! DEFINITION. The commands of the supply, RST# and PFI (spec/05_start_up_and_replay.md R76 to R80,
spec/08_supply_loss_hold_up_and_doze.md R130 to R140), and the timers of the power monitor.

Each command's own effect is a function `State.on…`, which answers none where the event cannot happen (log 1). -/

namespace Sys2Proof.Machine

/-- A command whose event cannot happen changes nothing (log 1); after one that can, everything that follows at once
happens too (log 7). -/
def afterEvent (effect : Option State) (s : State) : Host.Outcome State Fault Refusal :=
  match effect with
  | none => .next s
  | some t => .next t.settle

/-- The supply comes up: the debounce starts at once if PFI is high (R130). -/
def State.applySupply (rst : Bool) (s : State) : State :=
  State.restartDebounce { s with pins := { s.pins with supply := true, rst := rst } }

/-- POWER_ON (R76): the supply reaches its operating level with RST# high. -/
def State.onPowerOn (s : State) : Option State :=
  if s.pins.supply then none else some ((s.applySupply true).beginStartUp .powerOn .none)

/-- SUPPLY_APPLIED_IN_RESET (R78): the supply reaches its operating level with RST# low; the part waits in reset. -/
def State.onSupplyAppliedInReset (s : State) : Option State :=
  if s.pins.supply then none else some (s.applySupply false)

/-- SUPPLY_BELOW_OPERATING_LEVEL (R139). -/
def State.onSupplyBelowOperatingLevel (s : State) : Option State :=
  if s.pins.supply then some s.loseSupply else none

/-- RST_FALL (R78). Without supply only the level of the line changes (log 27). -/
def State.onRstFall (s : State) : Option State :=
  if s.pins.rst then
    if s.pins.supply then some s.enterReset else some { s with pins := { s.pins with rst := false } }
  else none

/-- RST_RISE (R76): a start-up begins, with cause POWER_ON if it is the first since the supply was applied (log 13). -/
def State.onRstRise (s : State) : Option State :=
  if s.pins.rst then none
  else
    let t := { s with pins := { s.pins with rst := true } }
    if s.pins.supply then
      some (t.beginStartUp (if s.boot.startedSinceSupply then .resetLine else .powerOn) .none)
    else some t

/-- The power monitor's part of a fall of PFI (R130): settled is cleared and the timer stops. -/
def State.unsettle (s : State) : State :=
  { s with
    pins := { s.pins with pfi := false }
    monitor := { s.monitor with settled := false, debounce := .stopped } }

/-- SUPPLY_WARNING (R131): a fall of PFI, by the mode. -/
def State.onSupplyWarning (s : State) : Option State :=
  if s.pins.pfi then
    match s.control.mode with
    | some .running => some s.unsettle.enterHoldup
    | some .draining => some s.unsettle.enterHoldup
    | some .dozing => some s.unsettle.enterDown
    | some .bare => some s.unsettle.enterDown
    | some .starting => some s.unsettle.enterDown
    | some .halted => some s.unsettle.enterDown
    | some .holdup => some s.unsettle
    | some .down => some s.unsettle
    | none => some s.unsettle
  else none

/-- PFI_RISE (R130): the debounce timer starts. Without supply only the level of the line changes (log 27). -/
def State.onPfiRise (s : State) : Option State :=
  if s.pins.pfi then none
  else
    let t := { s with pins := { s.pins with pfi := true } }
    if s.pins.supply then
      some { t with monitor := { t.monitor with debounce := .running Config.debounceTime } }
    else some t

/-- PFI_DEBOUNCE_EXPIRY (R130): PFI is settled; in DOWN a start-up begins (R139), and a start-up's wait ends (R80). -/
def State.onPfiDebounceExpiry (s : State) : Option State :=
  if s.monitor.debounce.isRunning && s.pins.pfi then
    let t := { s with monitor := { s.monitor with debounce := .expired, settled := true } }
    if s.inMode .down then some (t.beginStartUp .supplyRecovery .none)
    else if s.inMode .starting && s.boot.step == .pfiWait then some t.beginWake
    else some t
  else none

/-- HOLD_UP_BUDGET_EXPIRY (R133). -/
def State.onHoldUpBudgetExpiry (s : State) : Option State :=
  if s.monitor.holdUp.isRunning then some { s with monitor := { s.monitor with holdUp := .expired } } else none

/-- DOZE_IDLE_EXPIRY (R141): the timer stays expired until the next activity. -/
def State.onDozeIdleExpiry (s : State) : Option State :=
  if s.monitor.dozeIdle.isRunning then some { s with monitor := { s.monitor with dozeIdle := .expired } } else none

/-- DOZE_ENTRY (R142, R143). -/
def State.onDozeEntry (s : State) : Option State := s.dozeStep

/-- POWER_ON. -/
def execPowerOn (s : State) : Host.Outcome State Fault Refusal := afterEvent s.onPowerOn s
/-- SUPPLY_APPLIED_IN_RESET. -/
def execSupplyAppliedInReset (s : State) : Host.Outcome State Fault Refusal := afterEvent s.onSupplyAppliedInReset s
/-- SUPPLY_BELOW_OPERATING_LEVEL. -/
def execSupplyBelowOperatingLevel (s : State) : Host.Outcome State Fault Refusal :=
  afterEvent s.onSupplyBelowOperatingLevel s
/-- RST_FALL. -/
def execRstFall (s : State) : Host.Outcome State Fault Refusal := afterEvent s.onRstFall s
/-- RST_RISE. -/
def execRstRise (s : State) : Host.Outcome State Fault Refusal := afterEvent s.onRstRise s
/-- SUPPLY_WARNING. -/
def execSupplyWarning (s : State) : Host.Outcome State Fault Refusal := afterEvent s.onSupplyWarning s
/-- PFI_RISE. -/
def execPfiRise (s : State) : Host.Outcome State Fault Refusal := afterEvent s.onPfiRise s
/-- PFI_DEBOUNCE_EXPIRY. -/
def execPfiDebounceExpiry (s : State) : Host.Outcome State Fault Refusal := afterEvent s.onPfiDebounceExpiry s
/-- HOLD_UP_BUDGET_EXPIRY. -/
def execHoldUpBudgetExpiry (s : State) : Host.Outcome State Fault Refusal := afterEvent s.onHoldUpBudgetExpiry s
/-- DOZE_IDLE_EXPIRY. -/
def execDozeIdleExpiry (s : State) : Host.Outcome State Fault Refusal := afterEvent s.onDozeIdleExpiry s
/-- DOZE_ENTRY. -/
def execDozeEntry (s : State) : Host.Outcome State Fault Refusal := afterEvent s.onDozeEntry s

end Sys2Proof.Machine
end

