-- ==== Sys2Proof/Machine/GroupLines.lean ====
section
/-! DEFINITION. The commands of GRP#, the ambient idle timer and the outcome outputs (spec/01_commit_groups.md). -/

namespace Sys2Proof.Machine

/-- The level of GRP# changes. -/
def State.moveGrp (level : Bool) (s : State) : State := { s with pins := { s.pins with grp := level } }

/-- GRP_ASSERTION (R6 to R11): a falling edge of GRP#. In STARTING, DOWN and reset it is not an event and only the
level changes (R1). -/
def State.onGrpAssertion (s : State) : Option State :=
  if s.pins.grp then
    if s.takesEdges then some ((s.moveGrp false).edge .assertion) else some (s.moveGrp false)
  else none

/-- GRP_RELEASE (R8, R9, R11, R14, R15): a rising edge of GRP#, with DSC sampled. -/
def State.onGrpRelease (dsc : Bool) (s : State) : Option State :=
  if s.pins.grp then none
  else if s.takesEdges then some ((s.moveGrp true).edge (.release dsc))
  else some (s.moveGrp true)

/-- AMBIENT_IDLE_EXPIRY (R20, R21): the ambient group is sealed, or will be when a loose write of it completes. -/
def State.onAmbientIdleExpiry (s : State) : Option State :=
  if s.groups.idleTimer.isRunning then
    some (State.requestSeal { s with groups := { s.groups with idleTimer := .expired } })
  else none

/-- The value CRES is driven to, for a result that is known (R25). -/
def OutcomeResult.level : OutcomeResult → Option Bool
  | .pending => none
  | .durable => some true
  | .lost => some false

/-- OUTCOME_PULSE (R25): CACK has been low for 2 µs and the front entry's result is known, so CRES is driven to it. -/
def State.onOutcomePulse (s : State) : Option State :=
  if s.outcomes.pulse = .idle then
    match s.outcomes.queue with
    | [] => none
    | e :: _ =>
      match e.result.level with
      | none => none
      | some durable => some { s with outcomes := { s.outcomes with pulse := .setup durable } }
  else none

/-- CACK_RISE (R25): the outcome is delivered and its entry leaves the queue. -/
def State.onCackRise (s : State) : Option State :=
  match s.outcomes.pulse with
  | .setup durable => some { s with outcomes := { queue := s.outcomes.queue.tail, pulse := .high durable } }
  | .idle => none
  | .high _ => none

/-- CACK_FALL (R25): CACK falls and CRES returns low. -/
def State.onCackFall (s : State) : Option State :=
  match s.outcomes.pulse with
  | .high _ => some { s with outcomes := { s.outcomes with pulse := .idle } }
  | .idle => none
  | .setup _ => none

/-- GRP_ASSERTION. -/
def execGrpAssertion (s : State) : Host.Outcome State Fault Refusal := afterEvent s.onGrpAssertion s
/-- GRP_RELEASE. -/
def execGrpRelease (dsc : Bool) (s : State) : Host.Outcome State Fault Refusal := afterEvent (s.onGrpRelease dsc) s
/-- AMBIENT_IDLE_EXPIRY. -/
def execAmbientIdleExpiry (s : State) : Host.Outcome State Fault Refusal := afterEvent s.onAmbientIdleExpiry s
/-- OUTCOME_PULSE. -/
def execOutcomePulse (s : State) : Host.Outcome State Fault Refusal := afterEvent s.onOutcomePulse s
/-- CACK_RISE. -/
def execCackRise (s : State) : Host.Outcome State Fault Refusal := afterEvent s.onCackRise s
/-- CACK_FALL. -/
def execCackFall (s : State) : Host.Outcome State Fault Refusal := afterEvent s.onCackFall s

end Sys2Proof.Machine
end

