-- ==== Sys2Proof/Machine/Upstream.lean ====
section
/-! DEFINITION. The commands of the upstream bus (spec/07_the_upstream_bus.md). -/

namespace Sys2Proof.Machine

/-! ### Beginning an access (R115) -/

/-- UCS# is asserted: the level of GRP# makes the access explicit or loose (R1), and a dozing part wakes (R127). -/
def State.beginAccess (s : State) : State :=
  let t := if s.inMode .dozing then s.wake else s
  { t with
    upstream := { t.upstream with access := some { explicit := !t.pins.grp, stage := .begun }, result := none } }

/-- The access whose strobe comes now: one that has begun, or one that begins with this command (log 11). None while
accesses are not taken or another is held. -/
def State.atStrobe (s : State) : Option State :=
  if s.awake then
    match s.upstream.access with
    | none => some s.beginAccess
    | some a => if a.stage = .begun then some s else none
  else none

/-! ### The write path (R118) -/

/-- The address checks, then the group controller (R116 to R118). -/
def State.writeByAddress (page offset : Nat) (data : Byte) (s : State) : State :=
  if s.config.isReserved page then s.refuseAndLose .reservedPage
  else if s.config.isProtected page then s.refuseAndLose .protectedPage
  else if s.accessExplicit then s.explicitWrite page offset data
  else s.looseWrite page offset data

/-- A write is decided by the mode in which it is taken (R118). -/
def State.decideWrite (page offset : Nat) (data : Byte) (s : State) : State :=
  match s.control.mode with
  | some .starting => (s.refuseWrite .mode).countEarly
  | some .bare => s.refuseAndLose .mode
  | some .running => s.writeByAddress page offset data
  | some .dozing => s.wake.writeByAddress page offset data
  | some .draining => if s.accessExplicit then s.writeByAddress page offset data else s.refuseWrite .mode
  | some .halted => s.refuseAndLose .mode
  | some .holdup => s.refuseAndLose .mode
  | some .down => s
  | none => s

/-- UPSTREAM_WRITE (R118). -/
def State.onUpstreamWrite (address : Address) (data : Byte) (s : State) : Option State :=
  s.atStrobe.map fun t => t.decideWrite (pageOf address) (offsetOf address) data

/-! ### The read path (R123) -/

/-- The byte of a host-visible page that is at hand: from a line (R36), or else from the read buffer (R125). -/
def State.byteAtHand (s : State) (page offset : Nat) : Option Byte :=
  match s.forward page offset with
  | some b => some b
  | none =>
    match s.upstream.buffer with
    | none => none
    | some buffer => if buffer.page = page then some (byteAt buffer.data offset) else none

/-- A read in a mode that serves it: a reserved page reads as the fill value; another page is answered at once, or held
for an array read (R116, R123). -/
def State.readByAddress (page offset : Nat) (s : State) : State :=
  if s.config.isReserved page then s.serveRead Config.fillByte
  else
    match s.byteAtHand page offset with
    | some b => s.serveRead b
    | none => s.holdAccess (.heldRead page offset false)

/-- A read in HOLDUP: without an array read (R123, R134). -/
def State.readInHoldup (page offset : Nat) (s : State) : State :=
  if s.config.isReserved page then s.serveRead Config.fillByte
  else
    match s.byteAtHand page offset with
    | some b => s.serveRead b
    | none => s.leaveUnserved

/-- A read is decided by the mode in which it is taken (R123). -/
def State.decideRead (page offset : Nat) (s : State) : State :=
  match s.control.mode with
  | some .starting => (s.serveRead Config.fillByte).countEarly
  | some .bare => s.readByAddress page offset
  | some .running => s.readByAddress page offset
  | some .dozing => s.wake.readByAddress page offset
  | some .draining => s.readByAddress page offset
  | some .halted => if s.haltedStartUp then s.leaveUnserved else s.readByAddress page offset
  | some .holdup => s.readInHoldup page offset
  | some .down => s
  | none => s

/-- The strobe shows that the access is a read, so no write is in progress: the edges that waited for one take effect
before the read is decided (R14, log 12). -/
def State.edgesBeforeRead (s : State) : State :=
  let t := State.flushEdges (s.groups.noted.length + 2) { s with upstream := { s.upstream with access := none } }
  { t with upstream := { t.upstream with access := s.upstream.access } }

/-- UPSTREAM_READ (R123). -/
def State.onUpstreamRead (address : Address) (s : State) : Option State :=
  s.atStrobe.map fun t => t.edgesBeforeRead.decideRead (pageOf address) (offsetOf address)

/-! ### The ends of an access -/

/-- UCS_ASSERTION (R115). -/
def State.onUcsAssertion (s : State) : Option State :=
  if s.awake && s.upstream.access.isNone then some s.beginAccess else none

/-- UCS_RELEASE_WITHOUT_STROBE (R115): the access completes without effect. -/
def State.onUcsReleaseWithoutStrobe (s : State) : Option State :=
  match s.upstream.access with
  | none => none
  | some a => if a.stage = .begun then some (s.completeAccess .withoutEffect) else none

/-- A held access ends with the effects of an expired wait limit (R121, R122). A read that the host has abandoned drives
UD no more (R115). -/
def State.expireHold (abandoned : Bool) (s : State) : Option State :=
  match s.upstream.access with
  | none => none
  | some a =>
    match a.stage with
    | .heldWrite _ _ _ _ => some (s.countStallExpiry.refuseAndLose .expired)
    | .heldRead _ _ _ =>
      some
        (s.countStallExpiry.countUnserved.completeAccess (if abandoned then .abandoned else .byte Config.fillByte))
    | .begun => none

/-- WAIT_LIMIT_EXPIRY (R121). -/
def State.onWaitLimitExpiry (s : State) : Option State :=
  if s.upstream.waitTimer.isRunning then s.expireHold false else none

/-- ACCESS_ABANDONED (R122). -/
def State.onAccessAbandoned (s : State) : Option State := s.expireHold true

/-- UCS_ASSERTION. -/
def execUcsAssertion (s : State) : Host.Outcome State Fault Refusal := afterEvent s.onUcsAssertion s
/-- UPSTREAM_WRITE. -/
def execUpstreamWrite (address : Address) (data : Byte) (s : State) : Host.Outcome State Fault Refusal :=
  afterEvent (s.onUpstreamWrite address data) s
/-- UPSTREAM_READ. -/
def execUpstreamRead (address : Address) (s : State) : Host.Outcome State Fault Refusal :=
  afterEvent (s.onUpstreamRead address) s
/-- UCS_RELEASE_WITHOUT_STROBE. -/
def execUcsReleaseWithoutStrobe (s : State) : Host.Outcome State Fault Refusal :=
  afterEvent s.onUcsReleaseWithoutStrobe s
/-- ACCESS_ABANDONED. -/
def execAccessAbandoned (s : State) : Host.Outcome State Fault Refusal := afterEvent s.onAccessAbandoned s
/-- WAIT_LIMIT_EXPIRY. -/
def execWaitLimitExpiry (s : State) : Host.Outcome State Fault Refusal := afterEvent s.onWaitLimitExpiry s

end Sys2Proof.Machine
end

