-- ==== Sys2Proof/Machine/ArrayEvents.lean ====
section
/-! DEFINITION. The commands that come from the array and its timers (spec/06_the_array_port.md). -/

namespace Sys2Proof.Machine

/-- WAKE_TIMER_EXPIRY (R109, R110): the array is ON; in a start-up the configuration reads begin (R81). -/
def State.onWakeTimerExpiry (s : State) : Option State :=
  if s.port.wakeTimer.isRunning then
    let t := { s with port := { s.port with power := .on, wakeTimer := .stopped } }
    if s.boot.step = .waking then some (t.bootAt .readCopyA) else some t
  else none

/-- The operation timer stops. -/
def State.stopOpTimer (s : State) : State := { s with port := { s.port with opTimer := .stopped } }

/-- READY_CHECK_PASS (R100): STATUS shows busy clear. A program that the device was still running has ended, passed or
failed (R97, R107, log 9). -/
def State.onReadyCheckPass (failed : Bool) (s : State) : Option State :=
  match s.port.inFlight with
  | none => none
  | some op =>
    if op.phase = .readyCheck then some (((s.endDeviceProgram failed).stopOpTimer).proceed op) else none

/-- PAGE_READ_END (R101): the 64 bytes have arrived. -/
def State.onPageReadEnd (s : State) : Option State :=
  match s.port.inFlight with
  | none => none
  | some op =>
    if op.kind = .pageRead ∧ op.phase = .transfer then
      some (s.endOperation op (.pass (s.device.readPage op.page)))
    else none

/-- PROGRAM_ATTEMPT_END (R102): STATUS shows busy clear, and the attempt has passed or failed. -/
def State.onProgramAttemptEnd (failed : Bool) (s : State) : Option State :=
  match s.port.inFlight with
  | none => none
  | some op =>
    if op.kind = .pageProgram ∧ op.phase = .transfer then
      let t := (s.endDeviceProgram failed).stopOpTimer
      if failed then some (t.withOperation { op with phase := .failed })
      else some (t.endOperation op (.pass []))
    else none

/-- A program that the device was sent has run beyond the program time limit (R102). One that ends at its ready check
has not been sent, and its page keeps its bytes (log 43). -/
def State.overrun (op : Operation) (s : State) : State :=
  if op.kind = .pageProgram ∧ op.phase = .transfer then { s with device := s.device.overrun } else s

/-- OPERATION_TIMER_EXPIRY (R100, R102): the operation ends with ARRAY_TIMEOUT; the device stays busy. -/
def State.onOperationTimerExpiry (s : State) : Option State :=
  if s.port.opTimer.isRunning then
    match s.port.inFlight with
    | none => none
    | some op => some ((s.overrun op).endOperation op .timeout)
  else none

/-- WAKE_TIMER_EXPIRY. -/
def execWakeTimerExpiry (s : State) : Host.Outcome State Fault Refusal := afterEvent s.onWakeTimerExpiry s
/-- READY_CHECK_PASS. -/
def execReadyCheckPass (failed : Bool) (s : State) : Host.Outcome State Fault Refusal :=
  afterEvent (s.onReadyCheckPass failed) s
/-- PAGE_READ_END. -/
def execPageReadEnd (s : State) : Host.Outcome State Fault Refusal := afterEvent s.onPageReadEnd s
/-- PROGRAM_ATTEMPT_END. -/
def execProgramAttemptEnd (failed : Bool) (s : State) : Host.Outcome State Fault Refusal :=
  afterEvent (s.onProgramAttemptEnd failed) s
/-- OPERATION_TIMER_EXPIRY. -/
def execOperationTimerExpiry (s : State) : Host.Outcome State Fault Refusal := afterEvent s.onOperationTimerExpiry s

end Sys2Proof.Machine
end

