-- ==== Sys2Proof/Machine/Link.lean ====
section
/-! DEFINITION. The commands of the maintenance link (spec/10_the_maintenance_link.md): the ends of transactions, and
the decision of each command. -/

namespace Sys2Proof.Machine

/-- The answer to a command is placed in the response buffer, and the command is decided (R161). -/
def State.respond (status : Status) (data : List Byte) (s : State) : State :=
  { s with link := { s.link with taken := none, response := { status := status, data := data } } }

/-- A waking command wakes a dozing part in the event in which it is taken (R145, R162). -/
def State.wakeFor (bytes : List Byte) (s : State) : State :=
  match commandOf bytes with
  | none => s
  | some c => if c.wakes && s.inMode .dozing then s.wake else s

/-- A command is taken, in the mode that counts for R162: the response buffer becomes PENDING with no data (R161). The
end of the transaction is an activity event (R141, R160). -/
def State.takeCommand (bytes : List Byte) (s : State) : State :=
  let t := s.wakeFor bytes
  match t.control.mode with
  | none => t
  | some m =>
    State.activity
      { t with
        link :=
          { t.link with
            taken := some { bytes := bytes, mode := m, retrying := t.control.retrying }
            response := { status := .pending, data := [] } } }

/-- The part acknowledges the address (R160). -/
def State.acknowledges (s : State) (address : LinkAddress) : Bool := s.awake && address == s.link.address

/-- The part acknowledges data byte k, counted from 1, of a write transaction that begins now (R160, R161): the first 50,
but none, so that the first is not, while a command is being decided (log 10). -/
def State.acknowledgesByte (s : State) (address : LinkAddress) (k : Nat) : Bool :=
  s.acknowledges address && s.link.taken.isNone && decide (k ≤ Config.maxWriteBytes)

/-- LINK_WRITE_TRANSACTION_END (R161): a command is taken; while one is still being decided the transaction is
disregarded, but its end is still an activity event (R160). One without a data byte takes no command (R160). One that
began while a command was being decided, and ends after it, ends with LINK_TRANSACTION_END (log 10). -/
def State.onLinkWriteTransactionEnd (address : LinkAddress) (bytes : List Byte) (s : State) : Option State :=
  if s.acknowledges address then
    match s.link.taken, bytes with
    | none, _ :: _ => some (s.takeCommand bytes)
    | none, [] => some s.activity
    | some _, _ => some s.activity
  else none

/-- LINK_TRANSACTION_END (R160, R161): a read transaction ends, or a write of which no data byte was acknowledged. -/
def State.onLinkTransactionEnd (address : LinkAddress) (s : State) : Option State :=
  if s.acknowledges address then some s.activity else none

/-- The command with these bytes is about to be decided: it has been taken, or is taken with this command (log 11).
None if another command is the one to be decided, or the part is not powered and out of reset. -/
def State.beginDecision (bytes : List Byte) (s : State) : Option State :=
  if s.awake then
    match s.link.taken with
    | none => some (s.takeCommand bytes)
    | some taken => if taken.bytes = bytes then some s else none
  else none

/-- The tests of R161 in their order, as far as they are the same for every command, by the mode when it was taken
(R162); a command that passes them is served as its own rule says. -/
def State.decide (bytes : List Byte) (served : Taken → State → State) (s : State) : Option State :=
  (s.beginDecision bytes).map fun t =>
    match t.link.taken, commandOf bytes with
    | none, _ => t
    | some _, none => t.respond .unknown []
    | some taken, some c =>
      match accepts c taken.mode with
      | .served => served taken t
      | .nothing => t.respond .nothing []
      | .refusedMode => t.respond .refusedMode []
      | .refusedBusy => t.respond .refusedBusy []

/-! ### Each command's own rule -/

/-- REPORT (R163): a snapshot in the event of the decision. -/
def State.serveReport (s : State) : State := s.respond .done s.reportBlock

/-- CLEAR (R167). -/
def State.serveClear (flagMask countersOption : Byte) (s : State) : State :=
  let t := s.withFlags fun f => f.cleared flagMask
  (if countersOption = 0#8 then t else t.withCounters fun _ => .zero).respond .done []

/-- SEAL (R169). -/
def State.serveSeal (s : State) : State :=
  if s.gathering.isSome then s.requestSeal.respond .done [] else s.respond .nothing []

/-- RESUME (R154): a retry starts, unless one is, or was at the taking, under way. -/
def State.serveResume (taken : Taken) (s : State) : State :=
  if taken.retrying || s.control.retrying then s.respond .refusedBusy []
  else State.respond .done [] { s with control := { s.control with retrying := true } }

/-- An accepted RESTART or STORE begins its drain (R170, R171). If the part has left BARE and RUNNING since the taking,
for HALTED or HOLDUP, the drain has been abandoned with it (R135, R149, log 41). -/
def State.beginDrain (drain : Drain) (s : State) : State :=
  if s.inMode .bare || s.inMode .running then s.enterDraining drain else s

/-- RESTART (R157, R170): taken in HALTED, a start-up at once, else the drain. -/
def State.serveRestart (taken : Taken) (s : State) : State :=
  let t := s.respond .done []
  if taken.mode = .halted then t.beginStartUp .restart .none else t.beginDrain .restart

/-- The index with which a STORE is refused, if it is (R171). -/
def State.storeFieldError (s : State) (fields : List Byte) : Option Nat :=
  if s.generationExhausted then some 0 else (parseStoreFields fields).firstBadField

/-- STORE (R171): the fields, the overlap, then the drain. -/
def State.serveStore (fields : List Byte) (s : State) : State :=
  match s.storeFieldError fields with
  | some index => s.respond .refusedField [BitVec.ofNat 8 index]
  | none =>
    if !s.sameRegion fields && s.regionsOverlap fields then s.respond .refusedOverlap []
    else (s.respond .done []).beginDrain (.store fields .drain)

/-- READ CONFIG (R164). -/
def State.serveReadConfig (s : State) : State :=
  match s.boot.active with
  | none => s.respond .nothing []
  | some image => s.respond .done image

/-- REPORT (R163). -/
def State.onReport (s : State) : Option State := s.decide [0x10#8] fun _ => State.serveReport

/-- CLEAR (R167). -/
def State.onClear (flagMask countersOption : Byte) (s : State) : Option State :=
  s.decide [0x20#8, flagMask, countersOption] fun _ => State.serveClear flagMask countersOption

/-- SEAL (R169). -/
def State.onSeal (s : State) : Option State := s.decide [0x30#8] fun _ => State.serveSeal

/-- RESUME (R154). -/
def State.onResume (s : State) : Option State := s.decide [0x40#8] State.serveResume

/-- RESTART (R170). -/
def State.onRestart (s : State) : Option State := s.decide [0x50#8] State.serveRestart

/-- STORE (R171). -/
def State.onStore (fields : List Byte) (s : State) : Option State :=
  s.decide (0x60#8 :: fields) fun _ => State.serveStore fields

/-- READ_CONFIG (R164). -/
def State.onReadConfig (s : State) : Option State := s.decide [0x70#8] fun _ => State.serveReadConfig

/-- UNKNOWN (R161): bytes that name no command, or not with that command's count. -/
def State.onUnknown (bytes : List Byte) (s : State) : Option State :=
  if bytes = [] ∨ namesCommand bytes = true then none else s.decide bytes fun _ t => t

/-- LINK_WRITE_TRANSACTION_END. -/
def execLinkWriteTransactionEnd (address : LinkAddress) (bytes : List Byte) (s : State) :
    Host.Outcome State Fault Refusal :=
  afterEvent (s.onLinkWriteTransactionEnd address bytes) s
/-- LINK_TRANSACTION_END. -/
def execLinkTransactionEnd (address : LinkAddress) (s : State) : Host.Outcome State Fault Refusal :=
  afterEvent (s.onLinkTransactionEnd address) s
/-- REPORT. -/
def execReport (s : State) : Host.Outcome State Fault Refusal := afterEvent s.onReport s
/-- CLEAR. -/
def execClear (flagMask countersOption : Byte) (s : State) : Host.Outcome State Fault Refusal :=
  afterEvent (s.onClear flagMask countersOption) s
/-- SEAL. -/
def execSeal (s : State) : Host.Outcome State Fault Refusal := afterEvent s.onSeal s
/-- RESUME. -/
def execResume (s : State) : Host.Outcome State Fault Refusal := afterEvent s.onResume s
/-- RESTART. -/
def execRestart (s : State) : Host.Outcome State Fault Refusal := afterEvent s.onRestart s
/-- STORE. -/
def execStore (fields : List Byte) (s : State) : Host.Outcome State Fault Refusal := afterEvent (s.onStore fields) s
/-- READ_CONFIG. -/
def execReadConfig (s : State) : Host.Outcome State Fault Refusal := afterEvent s.onReadConfig s
/-- UNKNOWN. -/
def execUnknown (bytes : List Byte) (s : State) : Host.Outcome State Fault Refusal := afterEvent (s.onUnknown bytes) s

end Sys2Proof.Machine
end

