-- ==== Sys2Proof/Machine/Dispatch.lean ====
section
/-! DEFINITION. The command's effect on everything but the queue: one arm for each constructor, one call of its
meaning. -/

namespace Sys2Proof.Machine

def exec (i : Instr) (s : State) : Host.Outcome State Fault Refusal :=
  match i with
  | .powerOn => Sys2Proof.Machine.execPowerOn s
  | .supplyBelowOperatingLevel => Sys2Proof.Machine.execSupplyBelowOperatingLevel s
  | .rstFall => Sys2Proof.Machine.execRstFall s
  | .rstRise => Sys2Proof.Machine.execRstRise s
  | .supplyWarning => Sys2Proof.Machine.execSupplyWarning s
  | .pfiRise => Sys2Proof.Machine.execPfiRise s
  | .pfiDebounceExpiry => Sys2Proof.Machine.execPfiDebounceExpiry s
  | .grpAssertion => Sys2Proof.Machine.execGrpAssertion s
  | .grpRelease dsc => Sys2Proof.Machine.execGrpRelease dsc s
  | .ucsAssertion => Sys2Proof.Machine.execUcsAssertion s
  | .upstreamWrite address data => Sys2Proof.Machine.execUpstreamWrite address data s
  | .upstreamRead address => Sys2Proof.Machine.execUpstreamRead address s
  | .ucsReleaseWithoutStrobe => Sys2Proof.Machine.execUcsReleaseWithoutStrobe s
  | .accessAbandoned => Sys2Proof.Machine.execAccessAbandoned s
  | .waitLimitExpiry => Sys2Proof.Machine.execWaitLimitExpiry s
  | .ambientIdleExpiry => Sys2Proof.Machine.execAmbientIdleExpiry s
  | .dozeIdleExpiry => Sys2Proof.Machine.execDozeIdleExpiry s
  | .dozeEntry => Sys2Proof.Machine.execDozeEntry s
  | .wakeTimerExpiry => Sys2Proof.Machine.execWakeTimerExpiry s
  | .holdUpBudgetExpiry => Sys2Proof.Machine.execHoldUpBudgetExpiry s
  | .operationTimerExpiry => Sys2Proof.Machine.execOperationTimerExpiry s
  | .readyCheckPass failed => Sys2Proof.Machine.execReadyCheckPass failed s
  | .pageReadEnd => Sys2Proof.Machine.execPageReadEnd s
  | .programAttemptEnd failed => Sys2Proof.Machine.execProgramAttemptEnd failed s
  | .outcomePulse => Sys2Proof.Machine.execOutcomePulse s
  | .cackRise => Sys2Proof.Machine.execCackRise s
  | .cackFall => Sys2Proof.Machine.execCackFall s
  | .linkWriteTransactionEnd address bytes => Sys2Proof.Machine.execLinkWriteTransactionEnd address bytes s
  | .report => Sys2Proof.Machine.execReport s
  | .clear flagMask countersOption => Sys2Proof.Machine.execClear flagMask countersOption s
  | .seal => Sys2Proof.Machine.execSeal s
  | .resume => Sys2Proof.Machine.execResume s
  | .restart => Sys2Proof.Machine.execRestart s
  | .store fields => Sys2Proof.Machine.execStore fields s
  | .readConfig => Sys2Proof.Machine.execReadConfig s
  | .unknown bytes => Sys2Proof.Machine.execUnknown bytes s
  | .linkTransactionEnd address => Sys2Proof.Machine.execLinkTransactionEnd address s
  | .supplyAppliedInReset => Sys2Proof.Machine.execSupplyAppliedInReset s

end Sys2Proof.Machine
end

