-- ==== Sys2Proof/Safety.lean ====
section
/-! DEFINITION. What is meant by a command completing, and the laws that every step keeps. -/

namespace Sys2Proof.Machine

/-- The command completes with the effect that turns s into t: what follows at once from t happens too (log 7), and
where nothing follows, t itself is the next state. -/
def Completes (c : Instr) (s t : State) : Prop :=
  exec c s = .next t.settle ∧ (t.micro = none → exec c s = .next t)

/-- The commands that are events of an input line or of the supply. -/
def movesPin : Instr → Bool
  | .powerOn | .supplyBelowOperatingLevel | .rstFall | .rstRise | .supplyWarning | .pfiRise | .grpAssertion
  | .grpRelease _ | .supplyAppliedInReset => true
  | .pfiDebounceExpiry | .ucsAssertion | .upstreamWrite _ _ | .upstreamRead _ | .ucsReleaseWithoutStrobe
  | .accessAbandoned | .waitLimitExpiry | .ambientIdleExpiry | .dozeIdleExpiry | .dozeEntry | .wakeTimerExpiry
  | .holdUpBudgetExpiry | .operationTimerExpiry | .readyCheckPass _ | .pageReadEnd | .programAttemptEnd _
  | .outcomePulse | .cackRise | .cackFall | .linkWriteTransactionEnd _ _ | .report | .clear _ _ | .seal | .resume
  | .restart | .store _ | .readConfig | .unknown _ | .linkTransactionEnd _ => false

/-- A sequence number is below the other's, as the table is ordered (R4). -/
def Group.Before (g h : Group) : Prop := g.sequence < h.sequence

/-- The table: at most 8 entries, with distinct sequences in the order of creation, all below the next sequence, which
is at most its exhausted value (R2, R4). -/
def State.TableLaw (s : State) : Prop :=
  s.groups.table.length ≤ Config.tableSize ∧ s.groups.table.Pairwise Group.Before ∧
    (∀ g ∈ s.groups.table, g.sequence < s.groups.nextSequence) ∧
    s.groups.nextSequence ≤ Config.sequenceExhausted

/-- A line comes before the other in the store: an older owner, or the same owner and a lower page. -/
def Line.Before (l m : Line) : Prop := l.owner < m.owner ∨ (l.owner = m.owner ∧ l.page < m.page)

/-- A write that waits for a line waits for a page of which its group owns none (R28, R31). -/
def State.WaitingWriteLaw (s : State) : Prop :=
  ∀ e page offset data group,
    s.upstream.access = some { explicit := e, stage := .heldWrite page offset data (.line group) } →
      s.ownsLine group page = false

/-- The line store: at most 32 lines, of 64 bytes each, ordered by owner and page, so that no owner has two lines for
one page (R26, R27). -/
def State.LineLaw (s : State) : Prop :=
  s.lines.length ≤ Config.lineCount ∧ (∀ l ∈ s.lines, l.bytes.length = Config.pageSize) ∧
    s.lines.Pairwise Line.Before ∧ s.WaitingWriteLaw

/-- No counter is above its maximum (R168). -/
def Counters.Bounded (c : Counters) : Prop :=
  c.writesStaged ≤ Config.counterMax ∧ c.writesRefused ≤ Config.counterMax ∧ c.groupsDurable ≤ Config.counterMax ∧
    c.groupsLost ≤ Config.counterMax ∧ c.readsUnserved ≤ Config.counterMax ∧ c.programRetries ≤ Config.counterMax ∧
    c.stallExpiries ≤ Config.counterMax ∧ c.earlyAccesses ≤ Config.counterMax ∧ c.outcomesDropped ≤ Config.counterMax

/-- The outcome queue, the fairness count and the counters stay within their ranges (R10, R23, R112, R168). -/
def State.RangeLaw (s : State) : Prop :=
  s.outcomes.queue.length ≤ Config.queueSize ∧ s.port.fairness ≤ Config.fairnessLimit ∧ s.link.counters.Bounded

/-- The array's memory keeps its canonical form. -/
def State.MemoryLaw (s : State) : Prop := s.device.wf

/-- The array's power (R108 to R110): APWR follows the power state, an operation is in flight only while the array is
ON, the wake timer runs only in WAKING, and the part is in a mode exactly while it is powered and out of reset. -/
def State.PowerLaw (s : State) : Prop :=
  (s.port.power = .off → s.port.apwr = false) ∧ (s.port.power = .on → s.port.apwr = true) ∧
    (s.port.wakeTimer.isRunning = true → s.port.power = .waking ∧ s.port.apwr = true) ∧
    (s.port.power ≠ .on → s.port.inFlight = none ∧ s.port.suspended = none) ∧
    (s.control.mode = some .dozing → s.port.power = .off) ∧
    (s.control.mode = none → s.port.power = .off ∧ s.boot.step = .idle) ∧
    (s.boot.step = .pfiWait → s.port.power = .waking ∧ s.port.wakeTimer.isRunning = false) ∧
    (s.control.mode.isSome = (s.pins.supply && s.pins.rst))

/-! ### The groups, their lines and their engines (R3, R5, R27, R45, R49, R59, R65) -/

/-- How far a group has come: the farther, the smaller. -/
def Group.rank (g : Group) : Nat :=
  match g.state with
  | .applying => 0
  | .durable => 1
  | .journaling => 2
  | .sealed => 3
  | .opened => 4
  | .gathering => 4
  | .lost => 4

/-- An older group and a younger one: the older has the lower sequence and has come at least as far, and only two
DURABLE groups or two SEALED ones have come equally far (R3, R59, R65). So the OPEN, GATHERING or LOST group is the
youngest, the APPLYING group the oldest, and there is one JOURNALING group at most. -/
def Group.Precedes (g h : Group) : Prop :=
  g.sequence < h.sequence ∧ g.rank ≤ h.rank ∧ (g.rank = h.rank → g.rank = 1 ∨ g.rank = 3)

/-- The table holds a group with this sequence in this state. -/
def State.HasGroup (s : State) (sequence : Nat) (state : GroupState) : Prop :=
  ∃ g ∈ s.groups.table, g.sequence = sequence ∧ g.state = state

/-- Edges of GRP# taken one after another lead from one level to another (true is high). -/
def EdgesLead : Bool → List Edge → Bool → Prop
  | before, [], after => before = after
  | before, .assertion :: rest, after => before = true ∧ EdgesLead false rest after
  | before, .release _ :: rest, after => before = false ∧ EdgesLead true rest after

/-- No write is held. -/
def State.NoHeldWrite (s : State) : Prop :=
  ∀ e page offset data wait, s.upstream.access ≠ some { explicit := e, stage := .heldWrite page offset data wait }

/-- No group, no line, and nothing of the engines or of an explicit group is under way. -/
def State.NoGroups (s : State) : Prop :=
  s.groups.table = [] ∧ s.lines = [] ∧ (s.groups.current = .none ∨ s.groups.current = .refused) ∧
    s.groups.openingWaits = false ∧ s.groups.noted = [] ∧ s.journal.record = none ∧ s.cursor = none ∧ s.NoHeldWrite

/-- Where a group needs a configuration and none is in force, or a start-up has not ended. -/
def State.Unready (s : State) : Prop :=
  s.boot.active = none ∨ s.boot.step ≠ .idle ∨ s.control.mode = none ∨ s.control.mode = some .starting

/-- What the write that is held waits for is there to be waited for (R31, R7, R19). -/
def State.HeldWriteLaw (s : State) : Prop :=
  ∀ e page offset data wait,
    s.upstream.access = some { explicit := e, stage := .heldWrite page offset data wait } →
      match wait with
      | .line q => if e then s.groups.current = .opened q else s.HasGroup q .gathering
      | .opening => e = true ∧ s.groups.current = .deferred
      | .entry => e = false ∧ s.gathering = none

/-- The steps of a start-up up to the selection of a configuration (R80 to R83). -/
def BootStep.selects : BootStep → Bool
  | .pfiWait => true
  | .waking => true
  | .readCopyA => true
  | .readCopyB _ => true
  | .idle => false
  | .scan _ => false
  | .judge _ _ _ => false
  | .replayRead _ => false
  | .replayProgram _ _ => false

/-- An operation of the journal engine, of the apply engine or of the start-up unit is one of a record, of a cursor or
of a start-up that is there (R98). -/
def State.OperationLaw (s : State) (op : Operation) : Prop :=
  (op.requester = .journal → s.journal.record ≠ none) ∧ (op.requester = .apply → s.cursor ≠ none) ∧
    (op.requester = .startUp → s.boot.step ≠ .idle)

/-- The groups outside DOWN: their order, what the other blocks hold about them, and the edges of GRP#. -/
structure State.GroupLaw (s : State) : Prop where
  /-- R3, R59, R65. -/
  order : s.groups.table.Pairwise Group.Precedes
  /-- R5: the status is OPEN exactly with an OPEN entry, its own. -/
  opened : ∀ q, s.groups.current = .opened q ↔ s.HasGroup q .opened
  /-- R5, R17: the status is LOST with an entry exactly with a LOST entry, its own. -/
  lost : ∀ q, s.groups.current = .lost (some q) ↔ s.HasGroup q .lost
  /-- The group that gathers is ambient; an OPEN or LOST one explicit. -/
  kinds : ∀ g ∈ s.groups.table,
    (g.state = .gathering → g.kind = .ambient) ∧ (g.state = .opened ∨ g.state = .lost → g.kind = .explicit)
  /-- R51: the record in progress is that of the JOURNALING group. -/
  record : ∀ q, (∃ r, s.journal.record = some r ∧ r.group = q) ↔ s.HasGroup q .journaling
  /-- R64: the cursor names the APPLYING group. -/
  cursor : ∀ q, (∃ c, s.cursor = some c ∧ c.group = q) ↔ s.HasGroup q .applying
  /-- R64: and one of its lines. -/
  cursorLine : ∀ c, s.cursor = some c → 1 ≤ c.line ∧ c.line ≤ s.lineCount c.group
  /-- R27: every line's owner is in the table and not LOST. -/
  owners : ∀ l ∈ s.lines, ∃ g ∈ s.groups.table, g.sequence = l.owner ∧ g.state ≠ .lost
  heldWrite : s.HeldWriteLaw
  /-- R6: while a loose write is in progress no explicit group is open, and one that waits, waits for that write; in
  HOLDUP, where no write is taken any more, the lost group may have taken its entry. -/
  looseWrite : s.looseWriteInProgress = true → s.control.mode ≠ some .holdup →
    s.groups.current = .none ∨ s.groups.current = .refused ∨
      (s.groups.current = .deferred ∧ s.groups.openingWaits = true)
  /-- R17, R18, R32: in HOLDUP no group gathers, is open or waits for an entry, and no write is held. -/
  holdup : s.control.mode = some .holdup →
    s.gathering = none ∧ s.groups.current ≠ .deferred ∧ (∀ q, s.groups.current ≠ .opened q) ∧ s.NoHeldWrite
  /-- R6: an opening that waits is that of the deferred group, and the ambient group is sealed before it. -/
  opening : s.groups.openingWaits = true →
    s.groups.current = .deferred ∧ (s.groups.sealWaits = true ∨ (s.gathering = none ∧ s.looseWriteInProgress = false))
  /-- R6, R7: while an explicit group waits for an entry alone, or has been lost waiting, no group gathers. -/
  waiting : (s.groups.current = .deferred ∧ s.groups.openingWaits = false) ∨ s.groups.current = .lost none →
    s.gathering = none
  /-- R5: while GRP# is high the status is NONE, but for edges that are noted. -/
  edges : s.takesEdges = true →
    ∃ level, EdgesLead level s.groups.noted s.pins.grp ∧ (level = true → s.groups.current = .none)
  /-- R5, R90. -/
  cleared : s.control.mode = some .starting → s.groups.current = .none
  /-- R42, R84: without a configuration, and in a start-up, there is no group. -/
  unready : s.Unready → s.NoGroups
  /-- R76, R89: a start-up is under way in STARTING and in a halted start-up alone. -/
  startUps : s.boot.step ≠ .idle → s.control.mode = some .starting ∨ s.control.mode = some .halted
  /-- R83, R84: where there is a configuration and where there is none. -/
  configuration : (s.control.mode = some .running ∨ s.control.mode = some .dozing → s.boot.active ≠ none) ∧
    (s.control.mode = some .bare → s.boot.active = none) ∧
    (s.boot.step.selects = true → s.boot.active = none) ∧
    (s.boot.step.selects = false → s.boot.step ≠ .idle → s.boot.active ≠ none)
  /-- R98. -/
  operations : ∀ op, s.port.inFlight = some op ∨ s.port.suspended = some op → s.OperationLaw op
  /-- R104: only a host read runs in the read slot. -/
  slot : ∀ p, s.port.suspended = some p → ∃ op, s.port.inFlight = some op ∧ op.requester = .readPath

/-- The ring pages of a record of n lines; an empty group has none (R45). -/
def recordPages (lines : Nat) : Nat := if lines = 0 then 0 else lines + 2

/-- A group that holds its record in the ring (R45). -/
def Group.holdsRecord (g : Group) : Bool :=
  match g.state with
  | .journaling => true
  | .durable => true
  | .applying => true
  | .opened => false
  | .gathering => false
  | .sealed => false
  | .lost => false

/-- R45: pages in use is the sum of n + 2 over the groups that hold a record, and never exceeds J. -/
def State.RingLaw (s : State) : Prop :=
  s.journal.inUse = ((s.groups.table.filter Group.holdsRecord).map fun g => recordPages (s.lineCount g.sequence)).sum ∧
    s.journal.inUse ≤ s.config.length

/-- Nothing is under way in DOWN (R137, R139). -/
def State.DownLaw (s : State) : Prop :=
  s.control.mode = some .down →
    s.upstream.access = none ∧ s.upstream.waitTimer = .stopped ∧ s.upstream.buffer = none ∧
      s.groups.idleTimer = .stopped ∧ s.journal.record = none ∧ s.cursor = none ∧ s.port.power = .off ∧
      s.port.apwr = false ∧ s.port.wakeTimer = .stopped ∧ s.port.inFlight = none ∧ s.port.suspended = none ∧
      s.port.opTimer = .stopped ∧ s.device.program = none ∧ s.monitor.holdUp = .stopped ∧
      s.monitor.dozeIdle = .stopped ∧ s.outcomes = .start ∧ s.link.taken = none ∧ s.link.drain = .none ∧
      s.boot.step = .idle

/-- The groups, with nothing left to happen by itself: outside DOWN the groups law, in DOWN nothing under way (R137). -/
def State.GroupsLaw (s : State) : Prop :=
  s.micro = none ∧ s.DownLaw ∧ (s.control.mode ≠ some .down → s.GroupLaw)

/-! ### Effects that several commands share, as the spec describes them -/

/-- The power monitor after an activity event taken in s (R141). -/
def State.activeMonitor (s : State) : Monitor :=
  if s.control.mode = some .running ∧ s.config.dozeIdle ≠ 0 then
    { s.monitor with dozeIdle := .running s.config.dozeIdle }
  else s.monitor

/-- The upstream port after an access has completed with its result (R115, R120). -/
def Upstream.ended (u : Upstream) (result : AccessResult) : Upstream :=
  { u with access := none, result := some result, waitTimer := .stopped }

/-- The link unit after a refusal (R119). -/
def Link.refusal (l : Link) : Link :=
  { l with
    flags := { l.flags with refused := true }
    counters := { l.counters with writesRefused := bump l.counters.writesRefused } }

/-- The link unit after an unserved read (R124). -/
def Link.unserved (l : Link) : Link :=
  { l with
    flags := { l.flags with unserved := true }
    counters := { l.counters with readsUnserved := bump l.counters.readsUnserved } }

/-- The link unit after a staged write (R168). -/
def Link.staged (l : Link) : Link :=
  { l with counters := { l.counters with writesStaged := bump l.counters.writesStaged } }

/-- The link unit after the loss of a group (R17, R18). -/
def Link.loss (l : Link) : Link :=
  { l with
    flags := { l.flags with lost := true }
    counters := { l.counters with groupsLost := bump l.counters.groupsLost } }

/-- The link unit after an early access (R79). -/
def Link.early (l : Link) : Link :=
  { l with counters := { l.counters with earlyAccesses := bump l.counters.earlyAccesses } }

/-- The link unit after a held access has expired (R121). -/
def Link.stall (l : Link) : Link :=
  { l with counters := { l.counters with stallExpiries := bump l.counters.stallExpiries } }

/-- An access is at its strobe, with this character: it has begun, or it begins with the command (R1, R115, log 11). -/
def State.AtStrobe (s : State) (explicit : Bool) : Prop :=
  (s.upstream.access = none ∧ explicit = !s.pins.grp) ∨
    s.upstream.access = some { explicit := explicit, stage := .begun }

/-- No edge of GRP#, opening or seal waits for a write in progress (R6, R14, R21). -/
def State.NothingWaits (s : State) : Prop :=
  s.groups.noted = [] ∧ s.groups.openingWaits = false ∧ s.groups.sealWaits = false

/-- The array has lost its supply: the page of a program under way in the device holds undefined bytes, free values
from now on; every other page is as before (R97, R107, log 4, log 8). -/
structure State.LosesArrayPower (s t : State) : Prop where
  program : t.device.program = none
  latch : t.device.latch = false
  rest : t.device.fail = s.device.fail ∧ t.device.statusFaults = s.device.statusFaults
  bytes : ∀ page offset, page < Config.arrayPages → offset < Config.pageSize →
    t.device.readByte page offset =
      match s.device.program with
      | none => s.device.readByte page offset
      | some p => if p.page = page then Config.freeByte s.freeCount offset else s.device.readByte page offset
  counted : t.freeCount = if s.device.program.isSome then s.freeCount + 1 else s.freeCount

/-- A start-up with this cause and store result begins (R76, R77, R79 to R81, R109, R115, R160, R161). -/
structure State.BeginsStartUp (cause : Cause) (storeResult : StoreResult) (s t : State) : Prop where
  control : t.control = { mode := some .starting, fault := none, retryOwner := none, retrying := false }
  port : t.upstream.access = none ∧ t.upstream.waitTimer = .stopped ∧ t.upstream.buffer = none
  groups : t.groups = .start
  lines : t.lines = []
  journal : t.journal = .start
  cursor : t.cursor = none
  outcomes : t.outcomes = .start
  /-- LAD is sampled; after RESTART and STORE the response is DONE, else NOTHING. -/
  link : t.link.address = Config.linkBase + s.pins.lad.setWidth 7 ∧ t.link.taken = none ∧ t.link.drain = .none ∧
    t.link.response = { status := if cause = .restart ∨ cause = .store then .done else .nothing, data := [] }
  monitor : t.monitor = { s.monitor with holdUp := .stopped, dozeIdle := .stopped }
  record : t.boot.record =
    some
      { cause := cause, copy := .none, generation := 0, validHeaders := 0, replayed := 0, skipped := 0,
        incomplete := 0, programmed := 0, cutOff := 0, storeResult := storeResult }
  boot : t.boot.active = none ∧ t.boot.headers = [] ∧ t.boot.toReplay = [] ∧ t.boot.startedSinceSupply = true
  /-- Without a wait the fixed 20 ms wake starts; else APWR stays as it was and PFI is waited for. -/
  array : t.port =
    { Port.start with
      power := .waking
      apwr := s.port.apwr || s.monitor.settled
      wakeTimer := if s.monitor.settled then .running 200 else .stopped }
  step : t.boot.step = if s.monitor.settled then .waking else .pfiWait
  /-- An access that was held is an early access, counted after the counters have been cleared (R79). Without one, the
  byte of a read that has completed stays on UD, which reset and DOWN have let go (R115, log 23). -/
  early :
    match s.upstream.access with
    | some { explicit := _, stage := .heldWrite _ _ _ _ } =>
      t.upstream.result = some (.refused .mode) ∧ t.link.flags = { EventFlags.clear with refused := true } ∧
        t.link.counters = { Counters.zero with writesRefused := 1, earlyAccesses := 1 }
    | some { explicit := _, stage := .heldRead _ _ _ } =>
      t.upstream.result = some (.byte 0xFF#8) ∧ t.link.flags = .clear ∧
        t.link.counters = { Counters.zero with earlyAccesses := 1 }
    | _ =>
      t.upstream.result =
          (if s.control.mode = none ∨ s.control.mode = some .down then none else s.upstream.result) ∧
        t.link.flags = .clear ∧ t.link.counters = .zero
  frame : t.pins = s.pins ∧ t.device = s.device ∧ t.freeCount = s.freeCount ∧ t.pending = s.pending

/-- How an access in progress is cut off by DOWN and by reset: a held read returns the fill value, a write has no effect
(R126, R128). -/
def State.cutOffResult (s : State) : Option AccessResult :=
  match s.upstream.access with
  | none => s.upstream.result
  | some { explicit := _, stage := .heldRead _ _ _ } => some (.byte 0xFF#8)
  | some _ => some .withoutEffect

/-- The mode becomes DOWN (R137). -/
structure State.EntersDown (s t : State) : Prop where
  control : t.control = { s.control with mode := some .down, retrying := false }
  port : t.port = { Port.start with fairness := s.port.fairness }
  array : s.LosesArrayPower t
  upstream : t.upstream = { access := none, result := s.cutOffResult, waitTimer := .stopped, buffer := none }
  /-- Groups, lines and ring pointers are abandoned in place. -/
  groups : t.groups =
    { s.groups with openingWaits := false, sealWaits := false, noted := [], idleTimer := .stopped }
  lines : t.lines = s.lines
  journal : t.journal = { s.journal with record := none }
  cursor : t.cursor = none
  outcomes : t.outcomes = .start
  /-- Flags and counters are not changed. -/
  link : t.link = { s.link with taken := none, drain := .none }
  monitor : t.monitor =
    { debounce := if s.pins.pfi then .running 10 else .stopped, settled := false, holdUp := .stopped,
      dozeIdle := .stopped }
  boot : t.boot = { s.boot with step := .idle, headers := [], toReplay := [] }
  frame : t.pins = s.pins ∧ t.pending = s.pending

/-- The group controller with the ambient group, if one gathers, sealed (R20, R21). -/
def Groups.ambientSealed (g : Groups) (gathering : Option Group) : Groups :=
  match gathering with
  | none => { g with sealWaits := false }
  | some a =>
    { g with
      table := g.table.map fun h => if h.sequence = a.sequence then { h with state := .sealed } else h
      sealWaits := false, idleTimer := .stopped }

/-- The group controller after a cause of R21 other than an assertion: the ambient group, if one gathers, is sealed; the
seal waits for a loose write that has joined it and is held, and one that waits already is not repeated (R21, R169). -/
def State.sealRequested (s : State) : Groups :=
  match s.gathering with
  | none => s.groups
  | some g =>
    if s.groups.sealWaits then s.groups
    else
      match s.upstream.access with
      | some { explicit := false, stage := .heldWrite _ _ _ (.line _) } => { s.groups with sealWaits := true }
      | _ => s.groups.ambientSealed (some g)

/-- The group controller with an entry freed. A deferred group that was lost while it waited takes it in LOST state, with
the next sequence (R2, R8, R17). -/
def Groups.entryFreed (g : Groups) (group : Nat) : Groups :=
  let table := g.table.filter fun h => h.sequence != group
  if g.current = .lost none ∧ g.nextSequence < 2 ^ 48 - 1 ∧ table.length < 8 then
    { g with
      table := table ++ [{ sequence := g.nextSequence, kind := .explicit, state := .lost }]
      nextSequence := g.nextSequence + 1
      current := .lost (some g.nextSequence) }
  else { g with table := table }

/-- The group controller with an explicit group opened (R4, R6). -/
def Groups.explicitOpened (g : Groups) : Groups :=
  { g with
    table := g.table ++ [{ sequence := g.nextSequence, kind := .explicit, state := .opened }]
    nextSequence := g.nextSequence + 1
    current := .opened g.nextSequence }

/-- The group controller with the open explicit group lost (R17). -/
def Groups.explicitLost (g : Groups) (sequence : Nat) : Groups :=
  { g with
    table := g.table.map fun h => if h.sequence = sequence then { h with state := .lost } else h
    current := .lost (some sequence) }

/-- An outcome entry is appended (R23). -/
def Outcomes.appended (o : Outcomes) (owner : OutcomeOwner) : Outcomes :=
  { o with queue := o.queue ++ [{ result := .pending, owner := owner }] }

/-- The owner's outcome entry, if PENDING, becomes LOST (R17, R24). -/
def Outcomes.lost (o : Outcomes) (owner : OutcomeOwner) : Outcomes :=
  { o with
    queue := o.queue.map fun e => if e.owner = owner ∧ e.result = .pending then { e with result := .lost } else e }

/-- The reference of the owner's outcome entry is dropped (R24). -/
def Outcomes.dropReference (o : Outcomes) (owner : OutcomeOwner) : Outcomes :=
  { o with queue := o.queue.map fun e => if e.owner = owner then { e with owner := .dropped } else e }

/-- No outcome entry belongs to the current explicit group: there is none, so no bracket is under way (R5). -/
def State.NoCurrentOutcome (s : State) : Prop := ∀ e ∈ s.outcomes.queue, e.owner ≠ .current

/-- The edge is not noted: no earlier edge waits for a write in progress (R14). -/
def State.NoEdgeWaits (s : State) : Prop :=
  s.writeInProgress = false ∨ (s.groups.openingWaits = false ∧ s.groups.noted = [])

/-- An upstream port whose access is held at this stage: the wait limit timer starts with the wait limit, unless it runs
(R120). -/
def Upstream.held (u : Upstream) (explicit : Bool) (stage : AccessStage) (limit : Nat) : Upstream :=
  { u with
    access := some { explicit := explicit, stage := stage }
    waitTimer := if u.waitTimer.isRunning then u.waitTimer else .running limit }

/-- Why the upstream port refuses a write of this character to this page, if it does, before the group is asked
(R116 to R118). -/
def State.portRefuses (s : State) (explicit : Bool) (page : Nat) : Option RefusalReason :=
  match s.control.mode with
  | some .running =>
    if s.config.isReserved page then some .reservedPage
    else if s.config.isProtected page then some .protectedPage else none
  | some .draining =>
    if explicit = false then some .mode
    else if s.config.isReserved page then some .reservedPage
    else if s.config.isProtected page then some .protectedPage else none
  | some .bare => some .mode
  | some .halted => some .mode
  | some .holdup => some .mode
  | some .starting => none
  | some .dozing => none
  | some .down => none
  | none => none

/-- The modes in which a read is served from lines, buffer and array (R123). -/
def State.servesReads (s : State) : Prop :=
  s.control.mode = some .bare ∨ s.control.mode = some .running ∨ s.control.mode = some .draining ∨
    (s.control.mode = some .halted ∧ s.boot.step = .idle)

/-- The program under way in the device has ended: its page holds its bytes, or, if it failed or had run beyond the
program time limit, undefined ones, free values from now on; every other page is as before; fail says how it ended
(R97, R102, log 4, log 42). -/
structure State.EndsDeviceProgram (s : State) (failed : Bool) (p : DeviceProgram) (t : State) : Prop where
  bytes : ∀ page offset, page < Config.arrayPages → offset < Config.pageSize →
    t.device.readByte page offset =
      if p.page = page then
        (if failed ∨ p.overrun then Config.freeByte s.freeCount offset else p.data.getD offset 0xFF#8)
      else s.device.readByte page offset
  /-- The page with undefined bytes is known as such (R82, R63, R159). -/
  undefined : ∀ page, page < Config.arrayPages →
    t.device.isUndefined page =
      if p.page = page then failed || p.overrun else s.device.isUndefined page
  fail : t.device.fail = failed
  counted : t.freeCount = if failed ∨ p.overrun then s.freeCount + 1 else s.freeCount

/-- STATUS shows busy set: a program is under way in the device, or the device is faulty (R97, R100, log 8). -/
def Device.ShowsBusy (d : Device) : Prop := d.program ≠ none ∨ d.nextFault.busy = true

/-- The device has been sent LATCH and a PAGE PROGRAM, and has answered this many STATUS (R97, R102). -/
def Device.sent (d : Device) (op : Operation) (answers : Nat) : Device :=
  { d with
    latch := false, program := some { page := op.page, data := op.data, overrun := false }
    statusFaults := d.statusFaults.drop answers }

/-- The device has been sent LATCH alone, and has answered this many STATUS; the last shows the latch clear (R102). -/
def Device.unlatched (d : Device) (answers : Nat) : Device :=
  { d with latch := false, statusFaults := d.statusFaults.drop answers }

/-- The operation as its read or its next attempt begins: the attempt count of a program rises by 1 (R102). -/
def Operation.begun (op : Operation) : Operation :=
  match op.kind with
  | .pageRead => op
  | .pageProgram => { op with attempts := op.attempts + 1 }

/-- The read buffer as the operation begins: the first attempt of a program invalidates it, if it holds the page being
programmed (R105). -/
def State.bufferAtStart (s : State) (op : Operation) : Option ReadBuffer :=
  if op.kind = .pageProgram ∧ op.attempts = 0 ∧ s.upstream.buffer.map ReadBuffer.page = some op.page then none
  else s.upstream.buffer

/-- The device after an operation has ended with ARRAY_TIMEOUT: as it was, still busy; of a program that it had been sent
the page's contents are unknown from then on (R102, log 42). A program that ends at its ready check has not been sent,
and its page is left as it is (log 43). -/
def State.deviceAfterTimeout (s : State) (op : Operation) : Device :=
  if op.kind = .pageProgram ∧ op.phase = .transfer then
    { s.device with program := s.device.program.map fun p => { p with overrun := true } }
  else s.device

/-- The fault kind that a failed operation of an engine or of the start-up unit is recorded with (R60, R72, R89). -/
def faultKindOf (requester : Requester) (timeout : Bool) : FaultKind :=
  if timeout then .arrayTimeout
  else
    match requester with
    | .journal => .journalFail
    | .apply => .applyFail
    | .startUp => .replayFail
    | .readPath => .arrayTimeout
    | .link => .arrayTimeout

/-- The failed operation of an engine is over: the fault is recorded, and the engine and its progress stay, as does the
device (R60, R72, R74, R147, R148). -/
def State.faultedBy (s : State) (op : Operation) (timeout : Bool) : State :=
  { s with
    port := { s.port with inFlight := none, opTimer := .stopped }
    device := if timeout then s.deviceAfterTimeout op else s.device
    control :=
      { s.control with
        fault :=
          some
            { kind := faultKindOf op.requester timeout, operation := op.kind, page := op.page
              sequence :=
                if op.requester = .journal then (s.journal.record.map fun r => r.group).getD 0
                else (s.cursor.map fun c => c.group).getD 0 }
        retryOwner := some (if op.requester = .journal then .journal else .apply) } }

/-- The part halted by the failed operation, the held write and the groups aside: the fault is recorded, and the drain is
abandoned (R149). -/
def State.haltedBy (s : State) (op : Operation) (timeout : Bool) : State :=
  { s.faultedBy op timeout with
    control := { (s.faultedBy op timeout).control with mode := some .halted, retrying := false }
    link := { s.link with drain := .none }
    monitor := { s.monitor with dozeIdle := .stopped } }

/-- The operation's failure leads to this state: by OPERATION_TIMER_EXPIRY while its timer runs (R100, R102), or, where
its third attempt has failed, by itself (R103). -/
def State.FailureEnds (s : State) (op : Operation) (timeout : Bool) (t : State) : Prop :=
  (timeout = true → s.port.opTimer.isRunning = true → Completes .operationTimerExpiry s t) ∧
    (timeout = false →
      s.endOperation op .fail = t ∧ (op.phase = .failed → 3 ≤ op.attempts → s.operationStep = some t))

/-- The modes and the budget with which the journal engine works on its record (R61, R113, R135). -/
def State.JournalMayWork (s : State) : Prop :=
  s.control.mode = some .running ∨ s.control.mode = some .draining ∨
    (s.control.mode = some .holdup ∧ s.journal.stopped = false ∧ s.monitor.holdUp ≠ .expired)

/-- A retry of this unit's failed operation is under way (R154, R155). -/
def State.RetryUnderWay (s : State) (owner : RetryOwner) : Prop :=
  s.control.mode = some .halted ∧ s.control.retrying = true ∧ s.control.retryOwner = some owner

/-! ### Commands of the maintenance link, as the spec tabulates them -/

/-- The command with these bytes is the one to be decided, and this is the mode when it was taken: it has been taken, or
it is taken with this command, no other being undecided (R161, R162, log 11). -/
def State.AtDecision (s : State) (bytes : List Byte) (mode : Mode) : Prop :=
  s.awake = true ∧
    ((s.link.taken = none ∧ s.control.mode = some mode) ∨
      ∃ retrying, s.link.taken = some { bytes := bytes, mode := mode, retrying := retrying })

/-- The link unit after a decision: the answer stands in the response buffer (R161). -/
def Link.answered (l : Link) (status : Status) (data : List Byte) : Link :=
  { l with taken := none, response := { status := status, data := data } }

/-- The power monitor after a decision. Where the end of the write transaction comes with the command (log 11), it is an
activity event (R141, R160). -/
def State.decisionMonitor (s : State) : Monitor := if s.link.taken = none then s.activeMonitor else s.monitor

/-- A dozing part after its wake: RUNNING, the array WAKING, the doze idle timer started (R109, R141, R145). -/
def State.woken (s : State) : State :=
  { s with
    control := { s.control with mode := some .running }
    port := { s.port with power := .waking, apwr := true, wakeTimer := .running s.config.wakeTime }
    monitor :=
      if s.config.dozeIdle = 0 then s.monitor else { s.monitor with dozeIdle := .running s.config.dozeIdle } }

/-- The bytes of each command's write transaction (11_formats, "Link Messages"). -/
def linkBytes : Instr → Option (List Byte)
  | .report => some [0x10#8]
  | .clear flagMask countersOption => some [0x20#8, flagMask, countersOption]
  | .seal => some [0x30#8]
  | .resume => some [0x40#8]
  | .restart => some [0x50#8]
  | .store fields => if fields.length = 49 then some (0x60#8 :: fields) else none
  | .readConfig => some [0x70#8]
  | .powerOn | .supplyBelowOperatingLevel | .rstFall | .rstRise | .supplyWarning | .pfiRise | .pfiDebounceExpiry
  | .supplyAppliedInReset | .grpAssertion | .grpRelease _ | .ucsAssertion | .upstreamWrite _ _ | .upstreamRead _
  | .ucsReleaseWithoutStrobe | .accessAbandoned | .waitLimitExpiry | .ambientIdleExpiry | .dozeIdleExpiry
  | .dozeEntry | .wakeTimerExpiry | .holdUpBudgetExpiry | .operationTimerExpiry | .readyCheckPass _ | .pageReadEnd
  | .programAttemptEnd _ | .outcomePulse | .cackRise | .cackFall | .linkWriteTransactionEnd _ _
  | .linkTransactionEnd _ | .unknown _ => none

/-- The columns of the table of R162, as far as they turn a command away, mode by mode. -/
def turnedAway (mode : Mode) (c : Instr) : Option Status :=
  match mode, c with
  | .starting, .report => none
  | .starting, _ => some .refusedMode
  | .bare, .seal => some .nothing
  | .bare, .resume => some .refusedMode
  | .bare, .readConfig => some .nothing
  | .running, .resume => some .refusedMode
  | .dozing, .resume => some .refusedMode
  | .draining, .resume => some .refusedMode
  | .draining, .restart => some .refusedBusy
  | .draining, .store _ => some .refusedBusy
  | .halted, .seal => some .nothing
  | .halted, .store _ => some .refusedMode
  | .holdup, .seal => some .refusedMode
  | .holdup, .resume => some .refusedMode
  | .holdup, .restart => some .refusedMode
  | .holdup, .store _ => some .refusedMode
  | _, _ => none

/-- A field of a block of bytes: this number, most significant byte first, in so many bytes from the offset on
(11_formats). -/
def Field (block : List Byte) (offset width value : Nat) : Prop :=
  ∀ i, i < width → byteAt block (offset + i) = BitVec.ofNat 8 (value / 256 ^ (width - 1 - i))

/-- A page lies in both of two regions, each given by its base and its length. -/
def RegionsMeet (base length base' length' : Nat) : Prop :=
  ∃ page, base ≤ page ∧ page < base + length ∧ base' ≤ page ∧ page < base' + length'

end Sys2Proof.Machine
end

