-- ==== Sys2Proof/Certificates/Slice0/Obligations.lean ====
section
/-! DEFINITION. The statements for the provers. "Completes" (Safety.lean) says that the command's own effect is the
state given, and that it is the next state where nothing follows from it at once. -/

open Sys2Proof Sys2Proof.Machine

/-! ### The machine -/

/-- One step carries out the command at the front of the queue, on the state with the queue's rest. -/
def Obligations.StepRunsTheFrontCommand : Prop :=
  ∀ (c : Instr) (rest : List Instr) (s : State), s.pending = c :: rest → step s = exec c { s with pending := rest }

/-- On an empty queue one unit of 100 µs passes: every running timer comes one unit nearer to its end, none expires by
itself, and nothing else changes. The model's choice (log 6). -/
def Obligations.EmptyQueueLetsTimePass : Prop :=
  (∀ s : State, s.pending = [] →
    step s = .next
      { s with
        upstream := { s.upstream with waitTimer := s.upstream.waitTimer.tick }
        groups := { s.groups with idleTimer := s.groups.idleTimer.tick }
        port := { s.port with wakeTimer := s.port.wakeTimer.tick, opTimer := s.port.opTimer.tick }
        monitor :=
          { s.monitor with
            debounce := s.monitor.debounce.tick, holdUp := s.monitor.holdUp.tick
            dozeIdle := s.monitor.dozeIdle.tick } }) ∧
    (∀ n, (Timer.running (n + 1)).tick = .running n) ∧ (Timer.running 0).tick = .running 0 ∧
    Timer.stopped.tick = .stopped ∧ Timer.expired.tick = .expired

/-- Every command is answered with a next state in every state, also one whose event cannot happen there (log 1): no
fault, no refusal. The queue of commands stays, and the levels of the inputs stay under every command that is no event
of an input. -/
def Obligations.EveryCommandAnswersNext : Prop :=
  ∀ (c : Instr) (s : State),
    ∃ t, exec c s = .next t ∧ t.pending = s.pending ∧ (movesPin c = false → t.pins = s.pins)

/-- R78: in reset the part is in no mode, RDY, ATTN, CACK and CRES are low, UWAIT is released, APWR is low, the array
is OFF with nothing in flight, the address is not acknowledged, and every volatile item holds its start value of R77.
The laws that every step keeps hold at reset. -/
def Obligations.ResetStartsClearAndLawful : Prop :=
  (let s := State.reset
   s.control.mode = none ∧ s.rdy = false ∧ s.attn = false ∧ s.cack = false ∧ s.cres = false ∧ s.uwait = false ∧
     (∀ holds, s.ud holds = none) ∧ s.port.apwr = false ∧ s.port.power = .off ∧ s.port.inFlight = none ∧
     s.port.suspended = none ∧ s.port.opTimer = .stopped ∧ s.port.fairness = 0 ∧
     (∀ address, s.acknowledges address = false) ∧
     s.upstream.access = none ∧ s.upstream.waitTimer = .stopped ∧ s.upstream.buffer = none ∧ s.groups.table = [] ∧
     s.groups.current = .none ∧ s.groups.idleTimer = .stopped ∧ s.groups.noted = [] ∧ s.groups.openingWaits = false ∧
     s.groups.sealWaits = false ∧ s.lines = [] ∧
     s.journal.inUse = 0 ∧ s.journal.retired = 0 ∧ s.journal.durable = 0 ∧ s.journal.record = none ∧
     s.cursor = none ∧ s.monitor.holdUp = .stopped ∧ s.monitor.dozeIdle = .stopped ∧ s.outcomes.queue = [] ∧
     s.link.flags = .clear ∧ s.link.counters = .zero ∧ s.link.drain = .none ∧
     s.link.response = { status := .nothing, data := [] } ∧ s.attentionMask = 0#8 ∧ s.control.fault = none ∧
     s.control.retryOwner = none ∧ s.control.retrying = false ∧ s.boot.active = none ∧ s.boot.record = none) ∧
  (State.reset.MemoryLaw ∧ State.reset.TableLaw ∧ State.reset.LineLaw ∧ State.reset.RangeLaw ∧ State.reset.PowerLaw ∧
     State.reset.GroupsLaw ∧ State.reset.RingLaw)

/-- Every step keeps the array's memory in its canonical form. -/
def Obligations.StepKeepsMemoryLaw : Prop :=
  ∀ s t : State, s.MemoryLaw → step s = .next t → t.MemoryLaw

/-- R2, R4: every step keeps the group table at 8 entries at most, in ascending distinct sequences below the next
sequence, which never passes 2^48 - 1. R10, R23, R112, R168: every step keeps the outcome queue at 16 entries, the
fairness count at 8 and every counter at 2^32 - 1 at most. -/
def Obligations.StepKeepsTableAndRangeLaws : Prop :=
  (∀ s t : State, s.TableLaw → step s = .next t → t.TableLaw) ∧
  (∀ s t : State, s.RangeLaw → step s = .next t → t.RangeLaw)

/-- R26, R27: every step keeps at most 32 lines in use, of 64 bytes, with no owner having two lines for one page. -/
def Obligations.StepKeepsLineLaw : Prop :=
  ∀ s t : State, s.LineLaw → step s = .next t → t.LineLaw

/-- R78, R108 to R110, R143: every step keeps APWR with the power state, operations to an array that is ON, and the
wake timer to WAKING, where the groups law holds too. -/
def Obligations.StepKeepsPowerLaw : Prop :=
  ∀ s t : State, s.GroupsLaw → s.PowerLaw → step s = .next t → t.PowerLaw

/-- R3, R5, R27, R49, R59, R64, R65, R137: every step keeps the groups in their order, the records that the blocks
hold about them, and nothing under way in DOWN; and after it nothing is left that would happen by itself. The table
law holds before the step. -/
def Obligations.StepKeepsGroupsLaw : Prop :=
  ∀ s t : State, s.TableLaw → s.GroupsLaw → step s = .next t → t.GroupsLaw

/-- R45: journal pages in use equal the sum of n + 2 over groups that are JOURNALING, DURABLE or APPLYING, and never
exceed J, after every step from a state in which they do and the table law and the groups law hold. -/
def Obligations.StepKeepsRingLaw : Prop :=
  ∀ s t : State, s.TableLaw → s.GroupsLaw → s.RingLaw → step s = .next t → t.RingLaw

/-- Whatever a command leaves to follow from it comes to an end within the command: then nothing is left that would
happen by itself. That is so exactly where no part has anything to do: no edge, held write or claimant of an entry, no
operation, no engine, no request at the arbiter, no end of a drain, of HOLDUP or of the doze idle time. What a part
does by itself happens unless an earlier part acts. The order in which it happens is the model's (log 7). -/
def Obligations.SettlingComesToRest : Prop :=
  (∀ s : State, s.settle.micro = none) ∧
  (∀ s : State,
    s.micro = none ↔
      s.edgeStep = none ∧ s.lineStep = none ∧ s.claimStep = none ∧ s.operationStep = none ∧ s.completionStep = none ∧
        s.turnStep = none ∧ s.applyStep = none ∧ s.arbiterStep = none ∧ s.drainStep = none ∧ s.downStep = none ∧
        s.dozeStep = none) ∧
  (∀ s t : State, s.micro = some t →
    t ∈ s.edgeStep ∨ t ∈ s.lineStep ∨ t ∈ s.claimStep ∨ t ∈ s.operationStep ∨ t ∈ s.completionStep ∨
      t ∈ s.turnStep ∨ t ∈ s.applyStep ∨ t ∈ s.arbiterStep ∨ t ∈ s.drainStep ∨ t ∈ s.downStep ∨ t ∈ s.dozeStep) ∧
  (∀ s : State, s.micro = none → s.settle = s) ∧
  (∀ s t : State, s.micro = some t → t.micro = none → s.settle = t)

/-- R97, R107: through any command, the bytes of every page stay as they are, but for the page of the program that was
under way in the device. -/
def Obligations.ArrayChangesOnlyWhereAProgramRuns : Prop :=
  ∀ (c : Instr) (s t : State) (page offset : Nat), exec c s = .next t → offset < 64 →
    (∀ p, s.device.program = some p → p.page ≠ page) →
    t.device.readByte page offset = s.device.readByte page offset

/-- R36, R129: a byte that a write has just staged, in RUNNING, DRAINING or DOZING, is the byte that a read of the
address returns, no noted edge having ended the group at the write's completion. -/
def Obligations.ReadReturnsTheStagedByte : Prop :=
  ∀ (s t : State) (e : Bool) (address : Address) (data : Byte),
    s.GroupsLaw → s.LineLaw → s.TableLaw →
    (s.control.mode = some .running ∨ s.control.mode = some .draining ∨ s.control.mode = some .dozing) →
    s.AtStrobe e → s.groups.noted = [] → exec (.upstreamWrite address data) s = .next t → t.upstream.access = none →
    t.upstream.result = some .staged →
    t.forward (pageOf address) (offsetOf address) = some data ∧
      (t.control.mode = some .running ∨ t.control.mode = some .draining →
        ∃ u, exec (.upstreamRead address) t = .next u ∧ u.upstream.result = some (.byte data))

/-- R139: in DOWN the part is inactive. A command other than the settling of PFI, the fall of RST# and the loss of
supply changes nothing but the input levels and the debounce, so DOWN is left by those three alone. -/
def Obligations.DownIsInactive : Prop :=
  ∀ (c : Instr) (s : State), s.GroupsLaw → s.control.mode = some .down → s.pins.supply = true → s.pins.rst = true →
    c ≠ .pfiDebounceExpiry → c ≠ .rstFall → c ≠ .supplyBelowOperatingLevel →
    ∃ t, exec c s = .next t ∧ t = { s with pins := t.pins, monitor := t.monitor } ∧
      t.monitor = { s.monitor with debounce := t.monitor.debounce, settled := t.monitor.settled } ∧
      (c ≠ .supplyWarning → c ≠ .pfiRise → t.monitor = s.monitor)

/-! ### Supply, reset and hold-up -/

/-- R76, R130: POWER_ON. The supply comes up with RST# high: the debounce starts if PFI is high, and a start-up with
cause POWER_ON begins, waiting for PFI. R76, R78: RST_RISE with supply begins a start-up, with cause POWER_ON if no
start-up has begun since the supply was applied and RESET_LINE otherwise (log 13); without supply only the level
changes (log 27). R78, R130: SUPPLY_APPLIED_IN_RESET. The part waits in reset; the debounce starts if PFI is high. The
two events of the supply give RST# the level their rows name (log 33). -/
def Obligations.SupplyAndResetBeginStartUp : Prop :=
  (∀ s : State, s.pins.supply = false →
     ∃ t, exec .powerOn s = .next t ∧
       State.BeginsStartUp .powerOn .none
         { s with
           pins := { s.pins with supply := true, rst := true }
           monitor :=
             { s.monitor with settled := false, debounce := if s.pins.pfi then .running 10 else .stopped } } t) ∧
  ((∀ s : State, s.pins.rst = false → s.pins.supply = true →
     ∃ t, exec .rstRise s = .next t ∧
       State.BeginsStartUp (if s.boot.startedSinceSupply then .resetLine else .powerOn) .none
         { s with pins := { s.pins with rst := true } } t) ∧
   (∀ s : State, s.pins.rst = false → s.pins.supply = false →
     Completes .rstRise s { s with pins := { s.pins with rst := true } })) ∧
  (∀ s : State, s.pins.supply = false →
     Completes .supplyAppliedInReset s
       { s with
         pins := { s.pins with supply := true, rst := false }
         monitor :=
           { s.monitor with settled := false, debounce := if s.pins.pfi then .running 10 else .stopped } })

/-- R78, R107, R128, R139: RST_FALL and SUPPLY_BELOW_OPERATING_LEVEL. Every volatile item takes its start value,
APWR falls and the page of a program under way is torn; RST# keeps the debounce, the link address and the knowledge
that a start-up has begun, and cuts an access off, one that has only begun too (log 26); the loss of supply loses
all of them (log 27), with the link address 0x2C from then on (log 20). RST_FALL without supply only changes the
level (log 27). -/
def Obligations.ResetAndSupplyLossClearTheState : Prop :=
  (∀ s : State, s.pins.rst = true → s.pins.supply = true →
    ∃ t, Completes .rstFall s t ∧ s.LosesArrayPower t ∧ t.pins = { s.pins with rst := false } ∧ t.control = .start ∧
      t.upstream = { Upstream.start with result := s.cutOffResult } ∧ t.groups = .start ∧ t.lines = [] ∧
      t.journal = .start ∧ t.cursor = none ∧ t.port = .start ∧ t.outcomes = .start ∧
      t.monitor = { s.monitor with holdUp := .stopped, dozeIdle := .stopped } ∧ t.link = .start s.link.address ∧
      t.boot = .start s.boot.startedSinceSupply ∧ t.pending = s.pending) ∧
  (∀ s : State, s.pins.supply = true →
    ∃ t, Completes .supplyBelowOperatingLevel s t ∧ s.LosesArrayPower t ∧ t.pins = { s.pins with supply := false } ∧
      t.control = .start ∧ t.upstream = .start ∧ t.groups = .start ∧ t.lines = [] ∧ t.journal = .start ∧
      t.cursor = none ∧ t.port = .start ∧ t.outcomes = .start ∧
      t.monitor = { debounce := .stopped, settled := false, holdUp := .stopped, dozeIdle := .stopped } ∧
      t.link = .start 0x2C#7 ∧ t.boot = .start false ∧ t.pending = s.pending) ∧
  (∀ s : State, s.pins.rst = true → s.pins.supply = false →
    Completes .rstFall s { s with pins := { s.pins with rst := false } })

/-- R137, R138: SUPPLY_WARNING in DOZING, BARE, STARTING and HALTED takes the part to DOWN at once; the noted edges, a
waiting opening and seal, the retry, the command taken and a start-up's progress end with it (log 29), as does an
access that has only begun (log 26), and the ring counts stay (log 39). R130, R131, R140:
SUPPLY_WARNING in HOLDUP, in DOWN and in reset has no effect on the mode: it clears settled and stops the debounce. -/
def Obligations.WarningOutsideJournalWork : Prop :=
  (∀ s : State, s.pins.pfi = true →
     (s.control.mode = some .dozing ∨ s.control.mode = some .bare ∨ s.control.mode = some .starting ∨
       s.control.mode = some .halted) →
     ∃ t, exec .supplyWarning s = .next t ∧ State.EntersDown { s with pins := { s.pins with pfi := false } } t) ∧
  (∀ s : State, s.pins.pfi = true →
     (s.control.mode = some .holdup ∨ s.control.mode = some .down ∨ s.control.mode = none) →
     Completes .supplyWarning s
       { s with
         pins := { s.pins with pfi := false }
         monitor := { s.monitor with settled := false, debounce := .stopped } })

/-- R17, R18, R32, R131 to R133: SUPPLY_WARNING in RUNNING and DRAINING enters HOLDUP. The unsealed groups are lost
with their lines, each with the LOST flag and a count and an explicit one with outcome LOST; the others stay; a held
write is refused with reason MODE, a read not yet granted ends unserved, a drain is abandoned, and the budget starts;
a budget of 0 has expired. That a program of the apply engine or the link unit behind a slot read is withdrawn, and the
journal engine's stands, is the model's reading (log 18). -/
def Obligations.WarningEntersHoldup : Prop :=
  ∀ s : State, s.GroupsLaw → s.pins.pfi = true → (s.control.mode = some .running ∨ s.control.mode = some .draining) →
    ∃ t, Completes .supplyWarning s t ∧ t.control = { s.control with mode := some .holdup } ∧
      t.pins = { s.pins with pfi := false } ∧ t.boot = s.boot ∧ t.device = s.device ∧
      t.port =
        { s.port with
          suspended :=
            match s.port.suspended with
            | none => none
            | some op => if op.requester = .journal then some op else none } ∧
      t.cursor = s.cursor ∧ t.journal = { s.journal with declined := false, stopped := false } ∧
      t.monitor =
        { debounce := .stopped, settled := false, dozeIdle := .stopped
          holdUp := if s.config.holdUp = 0 then .expired else .running s.config.holdUp } ∧
      t.link.drain = .none ∧ t.link.taken = s.link.taken ∧ t.link.response = s.link.response ∧
      t.outcomes.pulse = s.outcomes.pulse ∧ t.pending = s.pending ∧
      (∀ l, l ∈ t.lines ↔ l ∈ s.lines ∧ ¬ s.HasGroup l.owner .opened ∧ ¬ s.HasGroup l.owner .gathering) ∧
      (∀ g, g.state ≠ .lost → (g ∈ t.groups.table ↔ g ∈ s.groups.table ∧ g.state ≠ .opened ∧ g.state ≠ .gathering)) ∧
      (∀ q, s.groups.current = .opened q →
        t.groups.current = .lost (some q) ∧ t.HasGroup q .lost ∧ t.link.flags.lost = true ∧
          t.link.counters.groupsLost = bump s.link.counters.groupsLost ∧ t.outcomes = s.outcomes.lost (.group q)) ∧
      (s.groups.current = .deferred →
        (∃ x, t.groups.current = .lost x) ∧ t.link.flags.lost = true ∧
          (s.gathering = none →
            t.link.counters.groupsLost = bump s.link.counters.groupsLost ∧ t.outcomes = s.outcomes.lost .current) ∧
          (∀ g, s.gathering = some g →
            t.link.counters.groupsLost = bump (bump s.link.counters.groupsLost) ∧
              t.outcomes = (s.outcomes.lost .current).dropReference (.group g.sequence))) ∧
      ((∀ q, s.groups.current ≠ .opened q) → s.groups.current ≠ .deferred →
        t.groups.current = s.groups.current ∧
          (s.gathering = none →
            t.link.flags.lost = s.link.flags.lost ∧ t.link.counters.groupsLost = s.link.counters.groupsLost ∧
              t.outcomes = s.outcomes) ∧
          (∀ g, s.gathering = some g →
            t.link.flags.lost = true ∧ t.link.counters.groupsLost = bump s.link.counters.groupsLost ∧
              t.outcomes = s.outcomes.dropReference (.group g.sequence))) ∧
      (match s.upstream.access with
        | some { explicit := _, stage := .heldWrite _ _ _ _ } =>
          t.upstream = s.upstream.ended (.refused .mode) ∧ t.link.flags.refused = true ∧
            t.link.counters.writesRefused = bump s.link.counters.writesRefused ∧
            t.link.counters.stallExpiries = s.link.counters.stallExpiries
        | some { explicit := _, stage := .heldRead _ _ false } =>
          t.upstream = s.upstream.ended (.byte 0xFF#8) ∧ t.link.flags.unserved = true ∧
            t.link.counters.readsUnserved = bump s.link.counters.readsUnserved ∧
            t.link.counters.stallExpiries = s.link.counters.stallExpiries
        | _ => t.upstream = s.upstream)

/-- R130, R139, R80: PFI_RISE and PFI_DEBOUNCE_EXPIRY. A rise starts the 1 ms debounce; its expiry with PFI high
settles PFI, which begins a start-up with cause SUPPLY_RECOVERY in DOWN and ends a start-up's wait in STARTING;
without supply only the level changes (log 27). R133, R141 to R143: HOLD_UP_BUDGET_EXPIRY, DOZE_IDLE_EXPIRY and
DOZE_ENTRY. The expiries are kept until they count; with the doze idle timer expired and the part idle, DOZING is
entered (log 24): the array goes OFF, so that a program still running in the device is cut short and the latch comes
up clear (log 8), the read buffer is invalidated, and all else stays. R81, R109, R110: WAKE_TIMER_EXPIRY. The array
is ON; in a start-up the configuration reads begin. -/
def Obligations.TimersRunOut : Prop :=
  ((∀ s : State, s.pins.pfi = false → s.pins.supply = true →
     Completes .pfiRise s
       { s with pins := { s.pins with pfi := true }, monitor := { s.monitor with debounce := .running 10 } }) ∧
   (∀ s : State, s.pins.pfi = false → s.pins.supply = false →
     Completes .pfiRise s { s with pins := { s.pins with pfi := true } }) ∧
   (∀ s : State, s.monitor.debounce.isRunning = true → s.pins.pfi = true → s.control.mode = some .down →
     ∃ t, exec .pfiDebounceExpiry s = .next t ∧
       State.BeginsStartUp .supplyRecovery .none
         { s with monitor := { s.monitor with debounce := .expired, settled := true } } t) ∧
   (∀ s : State, s.monitor.debounce.isRunning = true → s.pins.pfi = true → s.control.mode = some .starting →
     s.boot.step = .pfiWait →
     Completes .pfiDebounceExpiry s
       { s with
         monitor := { s.monitor with debounce := .expired, settled := true }
         port := { s.port with power := .waking, apwr := true, wakeTimer := .running 200 }
         boot := { s.boot with step := .waking } }) ∧
   (∀ s : State, s.monitor.debounce.isRunning = true → s.pins.pfi = true → s.control.mode ≠ some .down →
     ¬ (s.control.mode = some .starting ∧ s.boot.step = .pfiWait) →
     Completes .pfiDebounceExpiry s { s with monitor := { s.monitor with debounce := .expired, settled := true } })) ∧
  ((∀ s : State, s.monitor.holdUp.isRunning = true →
     Completes .holdUpBudgetExpiry s { s with monitor := { s.monitor with holdUp := .expired } }) ∧
   (∀ s : State, s.monitor.dozeIdle.isRunning = true →
     Completes .dozeIdleExpiry s { s with monitor := { s.monitor with dozeIdle := .expired } }) ∧
   (∀ s : State, s.control.mode = some .running → s.monitor.dozeIdle = .expired → s.groups.table = [] →
     s.outcomes.queue = [] → s.port.inFlight = none → s.port.suspended = none → s.upstream.access = none →
     s.pins.grp = true → s.link.taken = none →
     ∃ t, Completes .dozeEntry s t ∧ s.LosesArrayPower t ∧
       (s.device.program = none → t.device = { s.device with latch := false }) ∧
       t = { s with
             control := { s.control with mode := some .dozing }
             port := { s.port with power := .off, apwr := false, wakeTimer := .stopped }
             upstream := { s.upstream with buffer := none }
             device := t.device, freeCount := t.freeCount
             monitor := { s.monitor with dozeIdle := .stopped } })) ∧
  (∀ s : State, s.port.wakeTimer.isRunning = true →
     (s.boot.step ≠ .waking →
       Completes .wakeTimerExpiry s { s with port := { s.port with power := .on, wakeTimer := .stopped } }) ∧
     (s.boot.step = .waking →
       Completes .wakeTimerExpiry s
         { s with
           port := { s.port with power := .on, wakeTimer := .stopped }
           boot := { s.boot with step := .readCopyA } }))

/-- R136: from HOLDUP the mode becomes DOWN when no operation is in flight and the budget has expired or the journal
engine has nothing remaining, and not before. What DOWN ends and leaves beside the list of R137 is the model's (log
26, log 29, log 39). -/
def Obligations.HoldupEndsInDown : Prop :=
  (∀ s : State, s.control.mode = some .holdup → s.port.inFlight = none → s.port.suspended = none →
    (s.monitor.holdUp = .expired ∨ s.journal.stopped = true ∨
      (s.journal.record = none ∧
        (s.journal.declined = true ∨ ∀ g ∈ s.groups.table, g.state ≠ .sealed))) →
    ∃ t, s.downStep = some t ∧ s.EntersDown t) ∧
  (∀ s t : State, s.downStep = some t →
    s.control.mode = some .holdup ∧ s.port.inFlight = none ∧ s.port.suspended = none ∧
      (s.monitor.holdUp = .expired ∨ s.journal.stopped = true ∨
        (s.journal.record = none ∧
          (s.journal.declined = true ∨ ∀ g ∈ s.groups.table, g.state ≠ .sealed))))

/-! ### Explicit groups, the ambient group and outcomes -/

/-- R6, R145: GRP_ASSERTION in RUNNING, with no loose write in progress, room in the outcome queue and a free entry,
seals the ambient group and opens an explicit group with the next sequence and a PENDING outcome. In DOZING it also
wakes the part. R6, R7: GRP_ASSERTION in RUNNING makes a deferred group where no entry is free, and where a loose
write is in progress; then the seal of the ambient group and the opening wait for that write. A loose access whose
strobe has not come counts as such a write (log 12). -/
def Obligations.AssertionOpensOrDefersAGroup : Prop :=
  ((∀ s : State, s.control.mode = some .running → s.pins.grp = true → s.NoEdgeWaits → s.looseWriteInProgress = false →
     s.outcomes.queue.length < 16 → s.groups.table.length < 8 → s.groups.nextSequence < 2 ^ 48 - 1 →
     s.NoCurrentOutcome →
     Completes .grpAssertion s
       { s with
         pins := { s.pins with grp := false }
         groups := (s.groups.ambientSealed s.gathering).explicitOpened
         outcomes := s.outcomes.appended (.group s.groups.nextSequence)
         monitor := s.activeMonitor }) ∧
   (∀ s : State, s.control.mode = some .dozing → s.pins.grp = true → s.upstream.access = none → s.gathering = none →
     s.outcomes.queue = [] → s.groups.table.length < 8 → s.groups.nextSequence < 2 ^ 48 - 1 →
     Completes .grpAssertion s
       { s with
         control := { s.control with mode := some .running }
         pins := { s.pins with grp := false }
         groups := (s.groups.ambientSealed none).explicitOpened
         outcomes := s.outcomes.appended (.group s.groups.nextSequence)
         port := { s.port with power := .waking, apwr := true, wakeTimer := .running s.config.wakeTime }
         monitor :=
           if s.config.dozeIdle = 0 then s.monitor
           else { s.monitor with dozeIdle := .running s.config.dozeIdle } })) ∧
  ((∀ s : State, s.control.mode = some .running → s.pins.grp = true → s.NoEdgeWaits → s.looseWriteInProgress = false →
     s.outcomes.queue.length < 16 → 8 ≤ s.groups.table.length → s.groups.nextSequence < 2 ^ 48 - 1 →
     Completes .grpAssertion s
       { s with
         pins := { s.pins with grp := false }
         groups := { s.groups.ambientSealed s.gathering with current := .deferred }
         outcomes := s.outcomes.appended .current
         monitor := s.activeMonitor }) ∧
   (∀ s : State, s.control.mode = some .running → s.pins.grp = true → s.NoEdgeWaits → s.looseWriteInProgress = true →
     s.outcomes.queue.length < 16 → s.groups.nextSequence < 2 ^ 48 - 1 →
     Completes .grpAssertion s
       { s with
         pins := { s.pins with grp := false }
         groups := { s.groups with sealWaits := true, openingWaits := true, current := .deferred }
         outcomes := s.outcomes.appended .current
         monitor := s.activeMonitor }))

/-- R1, R4, R9 to R11, R145: GRP_ASSERTION makes a refused group in DRAINING, HALTED and BARE and, with the ambient
group sealed, in RUNNING with the sequence exhausted; in DOZING with the sequence exhausted it also wakes the part.
With the outcome queue full it is dropped. R21: while a loose write is in progress in RUNNING, the seal waits for it,
and the assertion is refused or dropped all the same; a loose access whose strobe has not come counts as such a write
(log 12). In HOLDUP it is ignored, and in STARTING, DOWN and reset it is no event: only the level changes. An ambient
group that still gathers in DRAINING goes on gathering (log 38). -/
def Obligations.AssertionWithoutAGroup : Prop :=
  (∀ s : State,
    (s.control.mode = some .draining ∨ s.control.mode = some .halted ∨ s.control.mode = some .bare) →
    s.pins.grp = true → s.NoEdgeWaits →
    (s.outcomes.queue.length < 16 →
      Completes .grpAssertion s
        { s with
          pins := { s.pins with grp := false }
          groups := { s.groups with current := .refused }
          outcomes := s.outcomes.appended .current }) ∧
    (16 ≤ s.outcomes.queue.length →
      Completes .grpAssertion s
        { s with
          pins := { s.pins with grp := false }
          groups := { s.groups with current := .refused }
          link :=
            { s.link with
              flags := { s.link.flags with dropped := true }
              counters :=
                { s.link.counters with outcomesDropped := bump s.link.counters.outcomesDropped } } })) ∧
  (∀ s : State, s.control.mode = some .running → s.pins.grp = true → s.NoEdgeWaits → s.looseWriteInProgress = false →
    (s.outcomes.queue.length < 16 → 2 ^ 48 - 1 ≤ s.groups.nextSequence →
      Completes .grpAssertion s
        { s with
          pins := { s.pins with grp := false }
          groups := { s.groups.ambientSealed s.gathering with current := .refused }
          outcomes := s.outcomes.appended .current
          monitor := s.activeMonitor }) ∧
    (16 ≤ s.outcomes.queue.length →
      Completes .grpAssertion s
        { s with
          pins := { s.pins with grp := false }
          groups := { s.groups.ambientSealed s.gathering with current := .refused }
          link :=
            { s.link with
              flags := { s.link.flags with dropped := true }
              counters := { s.link.counters with outcomesDropped := bump s.link.counters.outcomesDropped } }
          monitor := s.activeMonitor })) ∧
  (∀ s : State, s.control.mode = some .running → s.pins.grp = true → s.NoEdgeWaits → s.looseWriteInProgress = true →
    (s.outcomes.queue.length < 16 → 2 ^ 48 - 1 ≤ s.groups.nextSequence →
      Completes .grpAssertion s
        { s with
          pins := { s.pins with grp := false }
          groups := { s.groups with sealWaits := true, current := .refused }
          outcomes := s.outcomes.appended .current
          monitor := s.activeMonitor }) ∧
    (16 ≤ s.outcomes.queue.length →
      Completes .grpAssertion s
        { s with
          pins := { s.pins with grp := false }
          groups := { s.groups with sealWaits := true, current := .refused }
          link :=
            { s.link with
              flags := { s.link.flags with dropped := true }
              counters := { s.link.counters with outcomesDropped := bump s.link.counters.outcomesDropped } }
          monitor := s.activeMonitor })) ∧
  (∀ s : State, s.control.mode = some .dozing → s.pins.grp = true → s.upstream.access = none → s.gathering = none →
    s.outcomes.queue = [] → 2 ^ 48 - 1 ≤ s.groups.nextSequence →
    Completes .grpAssertion s
      { s.woken with
        pins := { s.pins with grp := false }
        groups := { s.groups.ambientSealed none with current := .refused }
        outcomes := s.outcomes.appended .current }) ∧
  (∀ s : State, s.pins.grp = true →
    ((s.control.mode = some .holdup ∧ s.NoEdgeWaits) ∨ s.control.mode = some .starting ∨
      s.control.mode = some .down ∨ s.control.mode = none) →
    Completes .grpAssertion s { s with pins := { s.pins with grp := false } })

/-- R14, R15, R17: GRP_RELEASE with status OPEN and no write of the group in progress. With DSC low the group is
sealed; with DSC high it is lost, its lines and its entry are freed and its outcome is LOST. Status NONE after it.
R5, R8, R9, R11, R15: GRP_RELEASE with another status, whatever DSC is: a deferred or refused group's outcome
becomes LOST, without a count of a loss (log 36), a LOST entry is freed, NONE stays; in STARTING, DOWN and reset
only the level changes. -/
def Obligations.ReleaseEndsTheExplicitGroup : Prop :=
  (∀ (s : State) (q : Nat), s.takesEdges = true → s.pins.grp = false → s.writeInProgress = false →
     s.groups.current = .opened q → s.NoCurrentOutcome →
     Completes (.grpRelease false) s
       { s with
         pins := { s.pins with grp := true }
         groups :=
           { s.groups with
             table := s.groups.table.map fun h => if h.sequence = q then { h with state := .sealed } else h
             current := .none, openingWaits := false }
         monitor := s.activeMonitor } ∧
     Completes (.grpRelease true) s
       { s with
         pins := { s.pins with grp := true }
         lines := s.lines.filter fun l => l.owner != q
         groups :=
           { s.groups with
             table := s.groups.table.filter fun h => h.sequence != q
             current := .none, openingWaits := false }
         outcomes := (s.outcomes.lost (.group q)).dropReference (.group q)
         link := s.link.loss
         monitor := s.activeMonitor }) ∧
  ((∀ (s : State) (dsc : Bool), s.takesEdges = true → s.pins.grp = false → s.writeInProgress = false →
     (s.groups.current = .deferred ∨ s.groups.current = .refused →
       Completes (.grpRelease dsc) s
         { s with
           pins := { s.pins with grp := true }
           groups := { s.groups with current := .none, openingWaits := false }
           outcomes := (s.outcomes.lost .current).dropReference .current
           monitor := s.activeMonitor }) ∧
     (s.NoCurrentOutcome → ∀ q, s.groups.current = .lost (some q) →
       Completes (.grpRelease dsc) s
         { s with
           pins := { s.pins with grp := true }
           groups :=
             { s.groups with
               table := s.groups.table.filter fun h => h.sequence != q
               current := .none, openingWaits := false }
           outcomes := s.outcomes.dropReference (.group q)
           monitor := s.activeMonitor }) ∧
     (s.groups.current = .lost none →
       Completes (.grpRelease dsc) s
         { s with
           pins := { s.pins with grp := true }
           groups := { s.groups with current := .none, openingWaits := false }
           outcomes := s.outcomes.dropReference .current
           monitor := s.activeMonitor }) ∧
     (s.groups.current = .none →
       Completes (.grpRelease dsc) s
         { s with pins := { s.pins with grp := true }, monitor := s.activeMonitor })) ∧
   (∀ (s : State) (dsc : Bool), s.takesEdges = false → s.pins.grp = false →
     Completes (.grpRelease dsc) s { s with pins := { s.pins with grp := true } }))

/-- R14: a release during a write of the OPEN or DEFERRED group is noted with DSC, as is any edge behind an earlier
one that waits for the write; once no write is in progress, the first noted edge is handled as an edge taken then. An
access whose strobe has not come counts as a write here (log 12). R150: where an opening has waited for the write, the
group opens then if an entry is free, and in HALTED stays DEFERRED (log 16). -/
def Obligations.EdgesDuringAWriteAreNoted : Prop :=
  (∀ (s : State) (dsc : Bool), s.takesEdges = true → s.pins.grp = false → s.writeInProgress = true →
    (s.groups.openingWaits = true ∨ s.groups.noted ≠ [] ∨
      (s.accessExplicit = true ∧ (s.groups.current = .deferred ∨ ∃ q, s.groups.current = .opened q))) →
    Completes (.grpRelease dsc) s
      { s with
        pins := { s.pins with grp := true }
        groups := { s.groups with noted := s.groups.noted ++ [.release dsc] }
        monitor := s.activeMonitor }) ∧
  (∀ s : State, s.takesEdges = true → s.pins.grp = true → s.writeInProgress = true →
    (s.groups.openingWaits = true ∨ s.groups.noted ≠ []) →
    Completes .grpAssertion s
      { s with
        pins := { s.pins with grp := false }
        groups := { s.groups with noted := s.groups.noted ++ [.assertion] }
        monitor := s.activeMonitor }) ∧
  (∀ s : State, s.writeInProgress = true → s.edgeStep = none) ∧
  (∀ s : State, s.takesEdges = true → s.writeInProgress = false → s.groups.sealWaits = false →
    s.groups.openingWaits = true → s.groups.current = .deferred →
    (s.control.mode = some .halted ∨ 8 ≤ s.groups.table.length →
      s.edgeStep = some { s with groups := { s.groups with openingWaits := false } }) ∧
    (s.control.mode ≠ some .halted → s.groups.table.length < 8 → s.groups.nextSequence < 2 ^ 48 - 1 →
      s.edgeStep = some
        { s with
          groups := { s.groups.explicitOpened with openingWaits := false }
          outcomes :=
            { s.outcomes with
              queue :=
                s.outcomes.queue.map fun e =>
                  if e.owner = .current then { e with owner := .group s.groups.nextSequence } else e } })) ∧
  (∀ (s : State) (dsc : Bool) (rest : List Edge), s.takesEdges = true → s.writeInProgress = false →
    s.groups.sealWaits = false → s.groups.openingWaits = false → s.groups.noted = .release dsc :: rest →
    s.pins.grp = true →
    ∃ u,
      Completes (.grpRelease dsc)
          { s with pins := { s.pins with grp := false }, groups := { s.groups with noted := rest } } u ∧
        s.edgeStep = some u) ∧
  (∀ (s : State) (rest : List Edge), s.takesEdges = true → s.writeInProgress = false → s.groups.sealWaits = false →
    s.groups.openingWaits = false → s.groups.noted = .assertion :: rest → s.pins.grp = false →
    ∃ u,
      Completes .grpAssertion
          { s with pins := { s.pins with grp := true }, groups := { s.groups with noted := rest } } u ∧
        s.edgeStep = some u)

/-- R20, R21, R169: the ambient group is sealed by AMBIENT_IDLE_EXPIRY and by SEAL, which is answered DONE; while a
loose write that has joined it is held, the seal waits for that write's completion; a seal that waits already is not
repeated. Without an ambient group SEAL is answered NOTHING. A decision with no transaction's end before it stands for
both (log 11). -/
def Obligations.AmbientGroupIsSealed : Prop :=
  (∀ (s : State) (g : Group), s.groups.idleTimer.isRunning = true → s.gathering = some g →
     (s.looseWriteInProgress = false → s.groups.sealWaits = false →
       Completes .ambientIdleExpiry s { s with groups := s.groups.ambientSealed (some g) }) ∧
     (s.groups.sealWaits = true →
       Completes .ambientIdleExpiry s { s with groups := { s.groups with idleTimer := .expired } }) ∧
     (∀ page offset data q,
       s.upstream.access = some { explicit := false, stage := .heldWrite page offset data (.line q) } →
       Completes .ambientIdleExpiry s { s with groups := { s.groups with idleTimer := .expired, sealWaits := true } })) ∧
  (∀ (s : State) (mode : Mode), mode = .running ∨ mode = .draining → s.AtDecision [0x30#8] mode →
    (s.gathering = none →
      Completes .seal s { s with link := s.link.answered .nothing [], monitor := s.decisionMonitor }) ∧
    (∀ g, s.gathering = some g →
      (s.looseWriteInProgress = false → s.groups.sealWaits = false →
        Completes .seal s
          { s with
            groups := s.groups.ambientSealed (some g)
            link := s.link.answered .done [], monitor := s.decisionMonitor }) ∧
      (s.groups.sealWaits = true →
        Completes .seal s { s with link := s.link.answered .done [], monitor := s.decisionMonitor }) ∧
      (∀ page offset data q,
        s.upstream.access = some { explicit := false, stage := .heldWrite page offset data (.line q) } →
        Completes .seal s
          { s with
            groups := { s.groups with sealWaits := true }
            link := s.link.answered .done [], monitor := s.decisionMonitor })))

/-- R25: OUTCOME_PULSE, CACK_RISE and CACK_FALL. CRES is driven to the front entry's result once it is known; at the
rise of CACK the entry leaves the queue; at its fall both lines are low again. An entry whose result is PENDING holds
the queue back. -/
def Obligations.OutcomesArePulsed : Prop :=
  (∀ (s : State) (e : OutcomeEntry) (rest : List OutcomeEntry), s.outcomes.pulse = .idle →
    s.outcomes.queue = e :: rest → e.result ≠ .pending →
    ∃ t, Completes .outcomePulse s t ∧
      t = { s with outcomes := { s.outcomes with pulse := .setup (e.result == .durable) } } ∧
      t.cack = false ∧ t.cres = (e.result == .durable)) ∧
  (∀ (s : State) (durable : Bool), s.outcomes.pulse = .setup durable →
    ∃ t, Completes .cackRise s t ∧
      t = { s with outcomes := { queue := s.outcomes.queue.drop 1, pulse := .high durable } } ∧
      t.cack = true ∧ t.cres = durable) ∧
  (∀ (s : State) (durable : Bool), s.outcomes.pulse = .high durable →
    ∃ t, Completes .cackFall s t ∧ t = { s with outcomes := { s.outcomes with pulse := .idle } } ∧
      t.cack = false ∧ t.cres = false) ∧
  (∀ (s : State) (e : OutcomeEntry) (rest : List OutcomeEntry), s.outcomes.queue = e :: rest → e.result = .pending →
    exec .outcomePulse s = .next s)

/-! ### The upstream bus -/

/-- R1, R115, R127, R145: UCS_ASSERTION fixes the access's character by the level of GRP#, and in DOZING wakes the
part; UCS_RELEASE_WITHOUT_STROBE completes it without effect. UD is driven with the byte of the read that has
completed, while the host holds UCS# and UOE# (log 23), and not in reset and DOWN. A strobe that comes without an
assertion before it stands for both (log 11). -/
def Obligations.AccessBeginsAndEnds : Prop :=
  (∀ s : State, s.awake = true → s.upstream.access = none → s.control.mode ≠ some .dozing →
    Completes .ucsAssertion s
      { s with
        upstream :=
          { s.upstream with access := some { explicit := !s.pins.grp, stage := .begun }, result := none } }) ∧
  (∀ s : State, s.control.mode = some .dozing → s.upstream.access = none →
    Completes .ucsAssertion s
      { s with
        control := { s.control with mode := some .running }
        upstream :=
          { s.upstream with access := some { explicit := !s.pins.grp, stage := .begun }, result := none }
        port := { s.port with power := .waking, apwr := true, wakeTimer := .running s.config.wakeTime }
        monitor :=
          if s.config.dozeIdle = 0 then s.monitor
          else { s.monitor with dozeIdle := .running s.config.dozeIdle } }) ∧
  (∀ (s : State) (e : Bool), s.upstream.access = some { explicit := e, stage := .begun } →
    Completes .ucsReleaseWithoutStrobe s
      { s with upstream := s.upstream.ended .withoutEffect, monitor := s.activeMonitor }) ∧
  (∀ (s : State) (holds : Bool) (b : Byte),
    s.ud holds = some b ↔
      holds = true ∧ s.control.mode ≠ none ∧ s.control.mode ≠ some .down ∧ s.upstream.result = some (.byte b)) ∧
  (∀ (s : State) (address : Address) (data : Byte), s.awake = true → s.upstream.access = none →
    ∃ t, Completes .ucsAssertion s t ∧ exec (.upstreamWrite address data) s = exec (.upstreamWrite address data) t ∧
      exec (.upstreamRead address) s = exec (.upstreamRead address) t)

/-- R12, R28 to R30: UPSTREAM_WRITE, explicit, to an open group, in RUNNING and DRAINING, on a page neither reserved
nor protected. It merges into the group's line for the page, or takes a new line while the group is below its quota
and a line is free; it is staged and counted. R19 to R21, R29, R30: UPSTREAM_WRITE, loose, in RUNNING, on a page
neither reserved nor protected. It joins the ambient group, or creates it with the next sequence; the idle timer
restarts; it merges or takes a new line; and the line that brings the group to Q_A seals it. -/
def Obligations.WritesAreStaged : Prop :=
  (∀ (s : State) (address : Address) (data : Byte) (q : Nat),
     (s.control.mode = some .running ∨ s.control.mode = some .draining) →
     s.upstream.access = some { explicit := true, stage := .begun } →
     s.config.isReserved (pageOf address) = false → s.config.isProtected (pageOf address) = false →
     s.groups.current = .opened q → s.gathering = none →
     (s.ownsLine q (pageOf address) = true →
       Completes (.upstreamWrite address data) s
         { s with
           lines :=
             s.lines.map fun l =>
               if l.owner == q && l.page == pageOf address then
                 { l with bytes := l.bytes.set (offsetOf address) (some data) }
               else l
           upstream := s.upstream.ended .staged, link := s.link.staged, monitor := s.activeMonitor }) ∧
     (s.ownsLine q (pageOf address) = false → s.lineCount q < s.config.quotaExplicit → s.lines.length < 32 →
       Completes (.upstreamWrite address data) s
         { s with
           lines :=
             insertLine
               { owner := q, page := pageOf address
                 bytes := (List.replicate 64 none).set (offsetOf address) (some data) } s.lines
           upstream := s.upstream.ended .staged, link := s.link.staged, monitor := s.activeMonitor })) ∧
  (∀ (s : State) (address : Address) (data : Byte),
     s.control.mode = some .running → s.upstream.access = some { explicit := false, stage := .begun } →
     s.config.isReserved (pageOf address) = false → s.config.isProtected (pageOf address) = false →
     (∀ g, s.gathering = some g → s.ownsLine g.sequence (pageOf address) = true →
       Completes (.upstreamWrite address data) s
         { s with
           groups := { s.groups with idleTimer := .running s.config.ambientIdle }
           lines :=
             s.lines.map fun l =>
               if l.owner == g.sequence && l.page == pageOf address then
                 { l with bytes := l.bytes.set (offsetOf address) (some data) }
               else l
           upstream := s.upstream.ended .staged, link := s.link.staged, monitor := s.activeMonitor }) ∧
     (∀ g, s.GroupsLaw → s.gathering = some g → s.ownsLine g.sequence (pageOf address) = false →
       s.lines.length < 32 →
       Completes (.upstreamWrite address data) s
         { s with
           groups :=
             if s.lineCount g.sequence + 1 = s.config.quotaAmbient then s.groups.ambientSealed (some g)
             else { s.groups with idleTimer := .running s.config.ambientIdle }
           lines :=
             insertLine
               { owner := g.sequence, page := pageOf address
                 bytes := (List.replicate 64 none).set (offsetOf address) (some data) } s.lines
           upstream := s.upstream.ended .staged, link := s.link.staged, monitor := s.activeMonitor }) ∧
     (s.GroupsLaw → s.TableLaw → s.gathering = none → s.groups.table.length < 8 →
       s.groups.nextSequence < 2 ^ 48 - 1 → s.lines.length < 32 →
       Completes (.upstreamWrite address data) s
         { s with
           groups :=
             { s.groups with
               table :=
                 s.groups.table ++
                   [{ sequence := s.groups.nextSequence, kind := .ambient
                      state := if s.config.quotaAmbient = 1 then .sealed else .gathering }]
               nextSequence := s.groups.nextSequence + 1
               sealWaits := if s.config.quotaAmbient = 1 then false else s.groups.sealWaits
               idleTimer := if s.config.quotaAmbient = 1 then .stopped else .running s.config.ambientIdle }
           lines :=
             insertLine
               { owner := s.groups.nextSequence, page := pageOf address
                 bytes := (List.replicate 64 none).set (offsetOf address) (some data) } s.lines
           upstream := s.upstream.ended .staged, link := s.link.staged, monitor := s.activeMonitor }))

/-- R7, R19, R31, R120: a write that cannot be placed at once is held on UWAIT: for a line, for the opening of its
deferred group, or for a table entry in which to create the ambient group. A loose write that finds an entry but no
line creates the ambient group, whose idle timer starts, and is held for a line of it. R8, R31: a held write goes on by itself. It
takes a line that has freed and is staged, sealing the ambient group with its Q_A-th line; the write that waits to
create the ambient group has the first claim on a freed entry, before the deferred group, which opens otherwise, and
whose held write then goes on as one to the open group. R150: in HALTED no entry is claimed. -/
def Obligations.WritesAreHeldAndGoOn : Prop :=
  (∀ (s : State) (e : Bool) (address : Address) (data : Byte),
     (s.control.mode = some .running ∨ (s.control.mode = some .draining ∧ e = true)) →
     s.upstream.access = some { explicit := e, stage := .begun } →
     s.config.isReserved (pageOf address) = false → s.config.isProtected (pageOf address) = false →
     (e = true → ∀ q, s.groups.current = .opened q → s.ownsLine q (pageOf address) = false →
       s.lineCount q < s.config.quotaExplicit → 32 ≤ s.lines.length →
       Completes (.upstreamWrite address data) s
         { s with
           upstream :=
             s.upstream.held true (.heldWrite (pageOf address) (offsetOf address) data (.line q))
               s.config.waitLimit }) ∧
     (e = true → s.groups.current = .deferred →
       Completes (.upstreamWrite address data) s
         { s with
           upstream :=
             s.upstream.held true (.heldWrite (pageOf address) (offsetOf address) data .opening)
               s.config.waitLimit }) ∧
     (e = false → ∀ g, s.GroupsLaw → s.gathering = some g → s.ownsLine g.sequence (pageOf address) = false →
       32 ≤ s.lines.length →
       Completes (.upstreamWrite address data) s
         { s with
           groups := { s.groups with idleTimer := .running s.config.ambientIdle }
           upstream :=
             s.upstream.held false (.heldWrite (pageOf address) (offsetOf address) data (.line g.sequence))
               s.config.waitLimit }) ∧
     (e = false → s.GroupsLaw → s.TableLaw → s.gathering = none → s.groups.nextSequence < 2 ^ 48 - 1 →
       s.groups.table.length < 8 → 32 ≤ s.lines.length →
       Completes (.upstreamWrite address data) s
         { s with
           groups :=
             { s.groups with
               table :=
                 s.groups.table ++ [{ sequence := s.groups.nextSequence, kind := .ambient, state := .gathering }]
               nextSequence := s.groups.nextSequence + 1
               idleTimer := .running s.config.ambientIdle }
           upstream :=
             s.upstream.held false
               (.heldWrite (pageOf address) (offsetOf address) data (.line s.groups.nextSequence))
               s.config.waitLimit }) ∧
     (e = false → s.gathering = none → s.groups.nextSequence < 2 ^ 48 - 1 → 8 ≤ s.groups.table.length →
       Completes (.upstreamWrite address data) s
         { s with
           upstream :=
             s.upstream.held false (.heldWrite (pageOf address) (offsetOf address) data .entry)
               s.config.waitLimit })) ∧
  ((∀ (s : State) (e : Bool) (page offset : Nat) (data : Byte) (q : Nat),
     s.takesEdges = true → s.upstream.access = some { explicit := e, stage := .heldWrite page offset data (.line q) } →
     s.lines.length < 32 →
     s.lineStep = some
       { s with
         groups :=
           match s.gathering with
           | none => s.groups
           | some g =>
             if g.sequence = q ∧ s.lineCount q + 1 = s.config.quotaAmbient then s.groups.ambientSealed (some g)
             else s.groups
         lines :=
           insertLine
             { owner := q, page := page, bytes := (List.replicate 64 none).set offset (some data) } s.lines
         upstream := s.upstream.ended .staged, link := s.link.staged, monitor := s.activeMonitor }) ∧
   (∀ (s : State) (e : Bool) (page offset : Nat) (data : Byte) (q : Nat),
     s.upstream.access = some { explicit := e, stage := .heldWrite page offset data (.line q) } →
     32 ≤ s.lines.length → s.lineStep = none) ∧
   (∀ (s : State) (e : Bool) (page offset : Nat) (data : Byte),
     s.TableLaw → s.takesEdges = true → s.control.mode ≠ some .halted →
     s.upstream.access = some { explicit := e, stage := .heldWrite page offset data .entry } →
     s.groups.table.length < 8 → s.groups.nextSequence < 2 ^ 48 - 1 →
     ∃ t, s.claimStep = some t ∧ t.groups.current = s.groups.current ∧
       t.groups.nextSequence = s.groups.nextSequence + 1 ∧
       ∃ g ∈ t.groups.table, g.sequence = s.groups.nextSequence ∧ g.kind = .ambient) ∧
   (∀ s : State, s.takesEdges = true → s.control.mode ≠ some .halted → s.groups.current = .deferred →
     s.groups.openingWaits = false → s.upstream.access = none → s.groups.table.length < 8 →
     s.groups.nextSequence < 2 ^ 48 - 1 →
     s.claimStep = some
       { s with
         groups := s.groups.explicitOpened
         outcomes :=
           { s.outcomes with
             queue :=
               s.outcomes.queue.map fun e =>
                 if e.owner = .current then { e with owner := .group s.groups.nextSequence } else e } }) ∧
   (∀ (s : State) (e : Bool) (page offset : Nat) (data : Byte), s.TableLaw → s.takesEdges = true →
     s.control.mode ≠ some .halted → s.groups.current = .deferred → s.groups.openingWaits = false →
     s.upstream.access = some { explicit := e, stage := .heldWrite page offset data .opening } → s.gathering = none →
     s.groups.table.length < 8 → s.groups.nextSequence < 2 ^ 48 - 1 → s.lines.length < 32 →
     (∀ l ∈ s.lines, l.owner ≠ s.groups.nextSequence) → 1 ≤ s.config.quotaExplicit →
     s.claimStep = some
       { s with
         groups := s.groups.explicitOpened
         outcomes :=
           { s.outcomes with
             queue :=
               s.outcomes.queue.map fun e =>
                 if e.owner = .current then { e with owner := .group s.groups.nextSequence } else e }
         lines :=
           insertLine
             { owner := s.groups.nextSequence, page := page
               bytes := (List.replicate 64 none).set offset (some data) } s.lines
         upstream := s.upstream.ended .staged, link := s.link.staged, monitor := s.activeMonitor }) ∧
   (∀ s : State, 8 ≤ s.groups.table.length ∨ s.control.mode = some .halted → s.claimStep = none))

/-- R12, R13, R17: an explicit write is refused with reason GROUP where there is no open or deferred group; one that
would need a line beyond Q_E is refused so too, and loses its group. R16 to R18, R116 to R119: a write refused by the
upstream port, with reason MODE, RESERVED or PROTECTED, changes no line and no page, sets REFUSED and is counted; an
explicit one loses its OPEN or DEFERRED group, a loose one loses nothing. In STARTING it is also an early access
(R79). -/
def Obligations.WritesAreRefused : Prop :=
  (∀ (s : State) (address : Address) (data : Byte),
     (s.control.mode = some .running ∨ s.control.mode = some .draining) →
     s.upstream.access = some { explicit := true, stage := .begun } →
     s.config.isReserved (pageOf address) = false → s.config.isProtected (pageOf address) = false →
     (s.groups.current = .none ∨ s.groups.current = .refused ∨ (∃ x, s.groups.current = .lost x) →
       Completes (.upstreamWrite address data) s
         { s with
           upstream := s.upstream.ended (.refused .group), link := s.link.refusal, monitor := s.activeMonitor }) ∧
     (s.GroupsLaw → ∀ q, s.groups.current = .opened q → s.ownsLine q (pageOf address) = false →
       s.config.quotaExplicit ≤ s.lineCount q →
       Completes (.upstreamWrite address data) s
         { s with
           lines := s.lines.filter fun l => l.owner != q
           groups := s.groups.explicitLost q
           outcomes := s.outcomes.lost (.group q)
           upstream := s.upstream.ended (.refused .group), link := s.link.loss.refusal
           monitor := s.activeMonitor })) ∧
  ((∀ (s : State) (e : Bool) (address : Address) (data : Byte) (reason : RefusalReason),
     s.upstream.access = some { explicit := e, stage := .begun } →
     s.portRefuses e (pageOf address) = some reason →
     (e = false ∨ s.groups.current = .none ∨ s.groups.current = .refused ∨ (∃ x, s.groups.current = .lost x) →
       Completes (.upstreamWrite address data) s
         { s with
           upstream := s.upstream.ended (.refused reason), link := s.link.refusal, monitor := s.activeMonitor }) ∧
     (e = true → ∀ q, s.groups.current = .opened q →
       Completes (.upstreamWrite address data) s
         { s with
           lines := s.lines.filter fun l => l.owner != q
           groups := s.groups.explicitLost q
           outcomes := s.outcomes.lost (.group q)
           upstream := s.upstream.ended (.refused reason), link := s.link.loss.refusal
           monitor := s.activeMonitor }) ∧
     (e = true → s.groups.current = .deferred →
       Completes (.upstreamWrite address data) s
         { s with
           groups := { s.groups with current := .lost none, openingWaits := false }
           outcomes := s.outcomes.lost .current
           upstream := s.upstream.ended (.refused reason), link := s.link.loss.refusal
           monitor := s.activeMonitor })) ∧
   (∀ (s : State) (e : Bool) (address : Address) (data : Byte), s.control.mode = some .starting →
     s.upstream.access = some { explicit := e, stage := .begun } →
     Completes (.upstreamWrite address data) s
       { s with upstream := s.upstream.ended (.refused .mode), link := s.link.refusal.early }) ∧
   (∀ (s : State) (e : Bool) (address : Address) (data : Byte), s.control.mode = some .running →
     s.upstream.access = some { explicit := e, stage := .begun } → e = false →
     s.config.isReserved (pageOf address) = false → s.config.isProtected (pageOf address) = false →
     s.gathering = none → 2 ^ 48 - 1 ≤ s.groups.nextSequence →
     Completes (.upstreamWrite address data) s
       { s with upstream := s.upstream.ended (.refused .mode), link := s.link.refusal, monitor := s.activeMonitor }))

/-- R36, R116, R123, R125: UPSTREAM_READ in BARE, RUNNING, DRAINING and HALTED. A reserved page reads as the fill
value; another page is answered by forwarding, else by the read buffer, else it is held for an array read. R79, R89,
R123, R124, R134: UPSTREAM_READ where no array read is made. In STARTING it returns the fill value as an early access,
in a halted start-up unserved; in HOLDUP the lines and the buffer answer it, a reserved page returns the fill value,
and what they miss is unserved. -/
def Obligations.ReadsAreServed : Prop :=
  (∀ (s : State) (e : Bool) (address : Address), s.servesReads →
     s.upstream.access = some { explicit := e, stage := .begun } → s.NothingWaits →
     (s.config.isReserved (pageOf address) = true →
       Completes (.upstreamRead address) s
         { s with upstream := s.upstream.ended (.byte 0xFF#8), monitor := s.activeMonitor }) ∧
     (s.config.isReserved (pageOf address) = false →
       (∀ b, s.forward (pageOf address) (offsetOf address) = some b →
         Completes (.upstreamRead address) s
           { s with upstream := s.upstream.ended (.byte b), monitor := s.activeMonitor }) ∧
       (s.forward (pageOf address) (offsetOf address) = none →
         (∀ data, s.upstream.buffer = some { page := pageOf address, data := data } →
           Completes (.upstreamRead address) s
             { s with
               upstream := s.upstream.ended (.byte (data.getD (offsetOf address) 0xFF#8))
               monitor := s.activeMonitor }) ∧
         ((∀ b, s.upstream.buffer = some b → b.page ≠ pageOf address) →
           Completes (.upstreamRead address) s
             { s with
               upstream :=
                 s.upstream.held e (.heldRead (pageOf address) (offsetOf address) false) s.config.waitLimit })))) ∧
  (∀ (s : State) (e : Bool) (address : Address), s.upstream.access = some { explicit := e, stage := .begun } →
     s.NothingWaits →
     (s.control.mode = some .starting →
       Completes (.upstreamRead address) s
         { s with upstream := s.upstream.ended (.byte 0xFF#8), link := s.link.early }) ∧
     (s.control.mode = some .halted → s.boot.step ≠ .idle →
       Completes (.upstreamRead address) s
         { s with upstream := s.upstream.ended (.byte 0xFF#8), link := s.link.unserved }) ∧
     (s.control.mode = some .holdup →
       (s.config.isReserved (pageOf address) = true →
         Completes (.upstreamRead address) s { s with upstream := s.upstream.ended (.byte 0xFF#8) }) ∧
       (s.config.isReserved (pageOf address) = false →
         (∀ b, s.forward (pageOf address) (offsetOf address) = some b →
           Completes (.upstreamRead address) s { s with upstream := s.upstream.ended (.byte b) }) ∧
         (s.forward (pageOf address) (offsetOf address) = none →
           (∀ data, s.upstream.buffer = some { page := pageOf address, data := data } →
             Completes (.upstreamRead address) s
               { s with upstream := s.upstream.ended (.byte (data.getD (offsetOf address) 0xFF#8)) }) ∧
           ((∀ b, s.upstream.buffer = some b → b.page ≠ pageOf address) →
             Completes (.upstreamRead address) s
               { s with upstream := s.upstream.ended (.byte 0xFF#8), link := s.link.unserved })))))

/-- R16, R119, R121, R122: WAIT_LIMIT_EXPIRY and ACCESS_ABANDONED on a held access. A write is refused with reason
EXPIRED, an explicit one losing its OPEN or DEFERRED group; a read returns the fill value unserved, which after an
abandonment drives UD no more (R115); both count a stall expiry. -/
def Obligations.HeldAccessExpires : Prop :=
  ∀ (c : Instr) (s : State), c = .accessAbandoned ∨ (c = .waitLimitExpiry ∧ s.upstream.waitTimer.isRunning = true) →
    (∀ e page offset data wait,
      s.upstream.access = some { explicit := e, stage := .heldWrite page offset data wait } →
      (e = false →
        Completes c s
          { s with
            upstream := s.upstream.ended (.refused .expired), link := s.link.stall.refusal
            monitor := s.activeMonitor }) ∧
      (e = true → ∀ q, s.groups.current = .opened q →
        Completes c s
          { s with
            lines := s.lines.filter fun l => l.owner != q
            groups := s.groups.explicitLost q
            outcomes := s.outcomes.lost (.group q)
            upstream := s.upstream.ended (.refused .expired), link := s.link.stall.loss.refusal
            monitor := s.activeMonitor }) ∧
      (e = true → s.groups.current = .deferred →
        Completes c s
          { s with
            groups := { s.groups with current := .lost none, openingWaits := false }
            outcomes := s.outcomes.lost .current
            upstream := s.upstream.ended (.refused .expired), link := s.link.stall.loss.refusal
            monitor := s.activeMonitor })) ∧
    (∀ e page offset granted, s.upstream.access = some { explicit := e, stage := .heldRead page offset granted } →
      Completes c s
        { s with
          upstream := s.upstream.ended (if c = .accessAbandoned then .abandoned else .byte 0xFF#8)
          link := s.link.stall.unserved, monitor := s.activeMonitor })

/-! ### The line store -/

/-- R36: the forwarding search answers with the byte of the line of the youngest owner among the lines of the page
that have the offset, and misses when none has it. -/
def Obligations.ForwardingFindsTheYoungestByte : Prop :=
  ∀ (s : State) (page offset : Nat), s.LineLaw →
    (∀ b, s.forward page offset = some b ↔
      ∃ l ∈ s.lines, l.page = page ∧ l.byteAt offset = some b ∧
        ∀ m ∈ s.lines, m.page = page → l.owner < m.owner → m.byteAt offset = none) ∧
    (s.forward page offset = none ↔ ∀ l ∈ s.lines, l.page = page → l.byteAt offset = none)

/-- R38: the completion source is the line for the page with the youngest owner older than the group, and there is
none, so that the source is the home page, exactly when no older group has a line for it. R33, R39: the completion
merge fills the clear offsets from the source, keeps the others, completes the line and changes no other line; and it
changes nothing that the host can read, whether the source is the older line or the home page. -/
def Obligations.CompletionIsInvisibleToTheHost : Prop :=
  (∀ (s : State) (group page : Nat), s.LineLaw →
     (∀ l, s.completionSource group page = some l ↔
       l ∈ s.lines ∧ l.page = page ∧ l.owner < group ∧
         ∀ m ∈ s.lines, m.page = page → m.owner < group → m.owner ≤ l.owner) ∧
     (s.completionSource group page = none ↔ ∀ m ∈ s.lines, m.page = page → ¬ m.owner < group)) ∧
  (∀ (s : State) (l : Line), s.LineLaw → l ∈ s.lines →
     (∀ source : PageBytes, ∃ m ∈ (s.completeLine l.owner l.page source).lines,
       m.owner = l.owner ∧ m.page = l.page ∧ m.isComplete = true ∧
         ∀ offset, offset < 64 → m.byteAt offset = some ((l.byteAt offset).getD (source.getD offset 0xFF#8))) ∧
     (∀ source : PageBytes, ∀ m : Line, m.owner ≠ l.owner ∨ m.page ≠ l.page →
       (m ∈ (s.completeLine l.owner l.page source).lines ↔ m ∈ s.lines)) ∧
     (∀ source, s.completionSource l.owner l.page = some source → source.isComplete = true →
       ∀ page offset, (s.completeLine l.owner l.page source.image).forward page offset = s.forward page offset) ∧
     (s.completionSource l.owner l.page = none →
       ∀ page offset, offset < 64 →
         ((s.completeLine l.owner l.page (s.device.readPage l.page)).forward page offset).getD
             (s.device.readByte page offset) =
           (s.forward page offset).getD (s.device.readByte page offset)))

/-! ### The array -/

/-- R100 to R102, R105: how an operation in flight begins. Where its first STATUS shows busy set, the ready check waits
with the operation timer running for the program time limit; else it passes at once. A read is then sent. A program
counts its attempt, and its first invalidates the read buffer if that holds its page. LATCH is sent, and where its
STATUS shows the latch, PAGE PROGRAM, with the timer running for the limit; where not, nothing more is sent and the
attempt has failed, its page keeping its bytes (the model's reading, log 43). R107: READY_CHECK_PASS ends a ready check
that waits, and the operation is sent in the same way. The operation timer stops; a program that the device was still
running has ended as the command says (log 9), its page undefined if it had run beyond the limit (log 42). How a STATUS
answer shows a fault of the device is the model's (log 8). -/
def Obligations.ReadyCheckPassSendsTheOperation : Prop :=
  (∀ (s : State) (op : Operation), s.port.inFlight = some op → op.phase = .start →
    (s.device.ShowsBusy →
      s.operationStep = some
        { s with
          device := s.device.afterStatus
          upstream := { s.upstream with buffer := s.bufferAtStart op }
          port :=
            { s.port with
              inFlight := some { op.begun with phase := .readyCheck }
              opTimer := .running s.config.programLimit } }) ∧
    (¬ s.device.ShowsBusy →
      (op.kind = .pageRead →
        s.operationStep = some
          { s with
            device := s.device.afterStatus
            port := { s.port with inFlight := some { op with phase := .transfer } } }) ∧
      (op.kind = .pageProgram → s.device.afterStatus.nextFault.latchClear = false →
        s.operationStep = some
          { s with
            device := s.device.sent op 2
            upstream := { s.upstream with buffer := s.bufferAtStart op }
            port :=
              { s.port with
                inFlight := some { op with attempts := op.attempts + 1, phase := .transfer }
                opTimer := .running s.config.programLimit } }) ∧
      (op.kind = .pageProgram → s.device.afterStatus.nextFault.latchClear = true →
        s.operationStep = some
          { s with
            device := s.device.unlatched 2
            upstream := { s.upstream with buffer := s.bufferAtStart op }
            port :=
              { s.port with inFlight := some { op with attempts := op.attempts + 1, phase := .failed } } }))) ∧
  (∀ (s : State) (op : Operation) (failed : Bool), s.port.inFlight = some op → op.phase = .readyCheck →
    (op.kind = .pageRead →
      (s.device.program = none →
        Completes (.readyCheckPass failed) s
          { s with port := { s.port with inFlight := some { op with phase := .transfer }, opTimer := .stopped } }) ∧
      (∀ p, s.device.program = some p →
        ∃ t, Completes (.readyCheckPass failed) s t ∧ s.EndsDeviceProgram failed p t ∧ t.device.program = none ∧
          t.device.latch = s.device.latch ∧ t.device.statusFaults = s.device.statusFaults ∧
          t = { s with
                device := t.device, freeCount := t.freeCount
                port := { s.port with inFlight := some { op with phase := .transfer }, opTimer := .stopped } })) ∧
    (op.kind = .pageProgram → s.device.nextFault.latchClear = false →
      (s.device.program = none →
        Completes (.readyCheckPass failed) s
          { s with
            device := s.device.sent op 1
            port :=
              { s.port with
                inFlight := some { op with phase := .transfer }, opTimer := .running s.config.programLimit } }) ∧
      (∀ p, s.device.program = some p →
        ∃ t, Completes (.readyCheckPass failed) s t ∧ s.EndsDeviceProgram failed p t ∧
          t.device.program = some { page := op.page, data := op.data, overrun := false } ∧ t.device.latch = false ∧
          t.device.statusFaults = s.device.statusFaults.drop 1 ∧
          t = { s with
                device := t.device, freeCount := t.freeCount
                port :=
                  { s.port with
                    inFlight := some { op with phase := .transfer }
                    opTimer := .running s.config.programLimit } })) ∧
    (op.kind = .pageProgram → s.device.nextFault.latchClear = true →
      (s.device.program = none →
        Completes (.readyCheckPass failed) s
          { s with
            device := s.device.unlatched 1
            port := { s.port with inFlight := some { op with phase := .failed }, opTimer := .stopped } }) ∧
      (∀ p, s.device.program = some p →
        ∃ t, Completes (.readyCheckPass failed) s t ∧ s.EndsDeviceProgram failed p t ∧ t.device.program = none ∧
          t.device.latch = false ∧ t.device.statusFaults = s.device.statusFaults.drop 1 ∧
          t = { s with
                device := t.device, freeCount := t.freeCount
                port := { s.port with inFlight := some { op with phase := .failed }, opTimer := .stopped } })))

/-- R101, R123, R125: PAGE_READ_END of a host read. The read buffer takes the page, and the access that waits for it
completes with its byte; an access that has expired meanwhile receives none. R39, R55, R56, R85: PAGE_READ_END of a
completion read fills the line and moves the record to its program, with the read buffer as it was; that of a scan
read hands the page to the start-up unit alone, and the last one begins the judgement. R81, R85, R86, R88: the
start-up unit asks for the operation of its step, in STARTING and for a retry. A page of a record takes the check
further; its commit page decides whether it is complete, which it is not with a page that holds undefined bytes
(R63, log 4); of each SEQUENCE the first complete record is used, and one without any is counted once (log 28). An
image read for replay is programmed next. -/
def Obligations.PageReadEndReachesItsRequester : Prop :=
  (∀ (s : State) (op : Operation), s.port.inFlight = some op → op.kind = .pageRead → op.phase = .transfer →
     op.requester = .readPath →
     (∀ e page offset, s.upstream.access = some { explicit := e, stage := .heldRead page offset true } →
       Completes .pageReadEnd s
         { s with
           port := { s.port with inFlight := s.port.suspended, suspended := none, opTimer := .stopped }
           upstream :=
             { access := none, result := some (.byte ((s.device.readPage op.page).getD offset 0xFF#8))
               waitTimer := .stopped, buffer := some { page := op.page, data := s.device.readPage op.page } }
           monitor := s.activeMonitor }) ∧
     (s.upstream.access = none →
       Completes .pageReadEnd s
         { s with
           port := { s.port with inFlight := s.port.suspended, suspended := none, opTimer := .stopped }
           upstream := { s.upstream with buffer := some { page := op.page, data := s.device.readPage op.page } }
           monitor := s.activeMonitor })) ∧
  (∀ (s : State) (op : Operation), s.port.inFlight = some op → op.kind = .pageRead → op.phase = .transfer →
     s.port.suspended = none →
     (op.requester = .journal → s.control.mode ≠ some .halted → ∀ r k l, s.journal.record = some r →
       r.position = .complete k → s.lineOf r.group k = some l →
       Completes .pageReadEnd s
         { s with
           port := { s.port with inFlight := none, opTimer := .stopped }
           lines := (s.completeLine r.group l.page (s.device.readPage op.page)).lines
           journal := { s.journal with record := some { r with position := .program k } }
           monitor := s.activeMonitor }) ∧
     (op.requester = .startUp → s.control.mode = some .starting → ∀ k, s.boot.step = .scan k →
       k + 1 < s.config.length →
       (s.device.isUndefined (s.config.base + k) = true ∨
         judgeHeader s.config (s.config.base + k) (s.device.readPage op.page) = none) →
       Completes .pageReadEnd s
         { s with
           port := { s.port with inFlight := none, opTimer := .stopped }
           boot := { s.boot with step := .scan (k + 1) } }) ∧
     (op.requester = .startUp → s.control.mode = some .starting → ∀ k h r, s.boot.step = .scan k →
       k + 1 < s.config.length → s.boot.record = some r →
       s.device.isUndefined (s.config.base + k) = false →
       judgeHeader s.config (s.config.base + k) (s.device.readPage op.page) = some h →
       Completes .pageReadEnd s
         { s with
           port := { s.port with inFlight := none, opTimer := .stopped }
           boot :=
             { s.boot with
               step := .scan (k + 1), headers := s.boot.headers ++ [h]
               record := some { r with validHeaders := r.validHeaders + 1 } } }) ∧
     (op.requester = .startUp → s.control.mode = some .starting → ∀ k, s.boot.step = .scan k →
       s.config.length ≤ k + 1 →
       ((s.device.isUndefined (s.config.base + k) = true ∨
           judgeHeader s.config (s.config.base + k) (s.device.readPage op.page) = none) →
         Completes .pageReadEnd s
           (State.judgeFrom 0 { s with port := { s.port with inFlight := none, opTimer := .stopped } })) ∧
       (∀ h r, s.boot.record = some r → s.device.isUndefined (s.config.base + k) = false →
         judgeHeader s.config (s.config.base + k) (s.device.readPage op.page) = some h →
         Completes .pageReadEnd s
           (State.judgeFrom 0
             { s with
               port := { s.port with inFlight := none, opTimer := .stopped }
               boot :=
                 { s.boot with
                   headers := s.boot.headers ++ [h]
                   record := some { r with validHeaders := r.validHeaders + 1 } } }))) ∧
     (op.requester = .startUp → s.control.mode = some .starting → ∀ i j check h,
       s.boot.step = .judge i j check → s.boot.headers[i]? = some h →
       (j ≤ h.lines →
         Completes .pageReadEnd s
           { s with
             port := { s.port with inFlight := none, opTimer := .stopped }
             boot := { s.boot with step := .judge i (j + 1) (checkOver check (s.device.readPage op.page)) } }) ∧
       (∀ r complete headers, h.lines < j → s.boot.record = some r →
         (complete = true ↔
           judgeCommit h check (s.device.readPage op.page) = true ∧
             ∀ k, 1 ≤ k → k ≤ h.lines + 1 →
               s.device.isUndefined (s.config.base + (h.page - s.config.base + k) % s.config.length) = false) →
         headers = s.boot.headers.modify i (fun g => { g with complete := some complete }) →
         Completes .pageReadEnd s
           (State.judgeFrom (i + 1)
             { s with
               port := { s.port with inFlight := none, opTimer := .stopped }
               boot :=
                 { s.boot with
                   headers := headers
                   record := some { r with incomplete := (incompleteRecords headers).length } } }))) ∧
     (op.requester = .startUp → s.control.mode = some .starting → ∀ k, s.boot.step = .replayRead k →
       Completes .pageReadEnd s
         { s with
           port := { s.port with inFlight := none, opTimer := .stopped }
           boot := { s.boot with step := .replayProgram k (s.device.readPage op.page) } })) ∧
  (∀ (s : State) (i : Nat) (h : FoundHeader), s.boot.headers[i]? = some h →
     s.judgeFrom i = { s with boot := { s.boot with step := .judge i 1 h.check } }) ∧
  (∀ headers : List FoundHeader,
     (∀ h ∈ completeRecords headers,
       headers.find? (fun g => g.complete == some true && g.sequence == h.sequence) = some h) ∧
     (incompleteRecords headers).Pairwise (fun g h => g.sequence ≠ h.sequence) ∧
     ∀ q, (∃ h ∈ incompleteRecords headers, h.sequence = q) ↔
       (∃ h ∈ headers, h.sequence = q ∧ h.complete = some false) ∧
         ∀ h ∈ headers, h.sequence = q → h.complete ≠ some true) ∧
  (∀ s : State,
     (s.control.mode = some .starting ∨ s.RetryUnderWay .startUp →
       (s.boot.step = .readCopyA → s.startUpRequest = some { kind := .pageRead, page := 16382, data := [] }) ∧
       (∀ copyA, s.boot.step = .readCopyB copyA →
         s.startUpRequest = some { kind := .pageRead, page := 16383, data := [] }) ∧
       (∀ k, s.boot.step = .scan k →
         s.startUpRequest = some { kind := .pageRead, page := s.config.base + k, data := [] }) ∧
       (∀ i j check h, s.boot.step = .judge i j check → s.boot.headers[i]? = some h →
         s.startUpRequest =
           some
             { kind := .pageRead, page := s.config.base + (h.page - s.config.base + j) % s.config.length
               data := [] }) ∧
       (∀ h rest, s.boot.toReplay = h :: rest →
         (∀ k, s.boot.step = .replayRead k →
           s.startUpRequest =
             some
               { kind := .pageRead, page := s.config.base + (h.page - s.config.base + k) % s.config.length
                 data := [] }) ∧
         (∀ k image page, s.boot.step = .replayProgram k image → h.pages[k - 1]? = some page →
           s.startUpRequest = some { kind := .pageProgram, page := page, data := image })) ∧
       (s.boot.step = .idle ∨ s.boot.step = .pfiWait ∨ s.boot.step = .waking → s.startUpRequest = none)) ∧
     (s.control.mode ≠ some .starting → ¬ s.RetryUnderWay .startUp → s.startUpRequest = none))

/-- R54, R57, R67, R97, R102: PROGRAM_ATTEMPT_END with a pass, in RUNNING, DRAINING and HOLDUP (R62, R74). The page
holds its bytes in the array; an apply program moves the cursor to the group's next line, and a header or image
program takes the record's check over the page and moves the record to its next position. R67, R70: the pass of the
group's last line retires it. R24, R50, R58: the pass of a commit program makes the group DURABLE: its state, the youngest durable
sequence, its outcome and the counter; the record in progress is absent. R88: a replay program that passes is
counted and moves the replay to the next image or, after the last, counts the record and moves to the next record.
-/
def Obligations.PassedProgramsAdvanceTheirEngines : Prop :=
  (∀ (s : State) (op : Operation) (p : DeviceProgram), s.port.inFlight = some op → op.kind = .pageProgram →
     op.phase = .transfer → s.port.suspended = none → s.device.program = some p →
     (s.control.mode = some .running ∨ s.control.mode = some .draining ∨ s.control.mode = some .holdup) →
     (op.requester = .apply → ∀ c, s.cursor = some c → c.line < s.lineCount c.group →
       ∃ t, Completes (.programAttemptEnd false) s t ∧ s.EndsDeviceProgram false p t ∧ t.device.program = none ∧
         t = { s with
               device := t.device, freeCount := t.freeCount
               port := { s.port with inFlight := none, opTimer := .stopped }
               cursor := some { c with line := c.line + 1 }, monitor := s.activeMonitor }) ∧
     (op.requester = .journal → ∀ r, s.journal.record = some r → r.position = .header →
       ∃ t, Completes (.programAttemptEnd false) s t ∧ s.EndsDeviceProgram false p t ∧
         t = { s with
               device := t.device, freeCount := t.freeCount
               port := { s.port with inFlight := none, opTimer := .stopped }
               journal :=
                 { s.journal with
                   record :=
                     some
                       { r with
                         position := s.positionOfLine r.group 1, pagesDone := r.pagesDone + 1
                         check := checkOver r.check r.header } }
               monitor := s.activeMonitor }) ∧
     (op.requester = .journal → ∀ r k l, s.journal.record = some r → r.position = .program k →
       s.lineOf r.group k = some l →
       ∃ t, Completes (.programAttemptEnd false) s t ∧ s.EndsDeviceProgram false p t ∧
         t = { s with
               device := t.device, freeCount := t.freeCount
               port := { s.port with inFlight := none, opTimer := .stopped }
               journal :=
                 { s.journal with
                   record :=
                     some
                       { r with
                         position := s.positionOfLine r.group (k + 1), pagesDone := r.pagesDone + 1
                         check := checkOver r.check l.image } }
               monitor := s.activeMonitor })) ∧
  (∀ (s : State) (op : Operation) (p : DeviceProgram) (r : Record), s.port.inFlight = some op →
     op.kind = .pageProgram → op.phase = .transfer → op.requester = .journal → s.port.suspended = none →
     s.device.program = some p →
     (s.control.mode = some .running ∨ s.control.mode = some .draining ∨ s.control.mode = some .holdup) →
     s.journal.record = some r → r.position = .commit →
     ∃ t, Completes (.programAttemptEnd false) s t ∧ s.EndsDeviceProgram false p t ∧
       t = { s with
             device := t.device, freeCount := t.freeCount
             port := { s.port with inFlight := none, opTimer := .stopped }
             groups :=
               { s.groups with
                 table :=
                   s.groups.table.map fun g => if g.sequence = r.group then { g with state := .durable } else g }
             journal := { s.journal with record := none, durable := r.group }
             outcomes :=
               { s.outcomes with
                 queue :=
                   s.outcomes.queue.map fun e =>
                     if e.owner = .group r.group ∧ e.result = .pending then { e with result := .durable } else e }
             link :=
               { s.link with
                 counters := { s.link.counters with groupsDurable := bump s.link.counters.groupsDurable } }
             monitor := s.activeMonitor }) ∧
  (∀ (s : State) (op : Operation) (p : DeviceProgram) (c : Cursor), s.port.inFlight = some op →
     op.kind = .pageProgram → op.phase = .transfer → op.requester = .apply → s.port.suspended = none →
     s.device.program = some p →
     (s.control.mode = some .running ∨ s.control.mode = some .draining ∨ s.control.mode = some .holdup) →
     s.cursor = some c → s.lineCount c.group ≤ c.line →
     ∃ t, Completes (.programAttemptEnd false) s t ∧ s.EndsDeviceProgram false p t ∧
       t = { s.retire c.group with
             device := t.device, freeCount := t.freeCount
             port := { s.port with inFlight := none, opTimer := .stopped }
             monitor := s.activeMonitor }) ∧
  (∀ (s : State) (op : Operation) (p : DeviceProgram) (k : Nat) (image : PageBytes) (h : FoundHeader)
     (rest : List FoundHeader) (r : StartUpRecord), s.port.inFlight = some op → op.kind = .pageProgram →
     op.phase = .transfer → op.requester = .startUp → s.port.suspended = none → s.device.program = some p →
     s.control.mode = some .starting → s.boot.step = .replayProgram k image → s.boot.toReplay = h :: rest →
     s.boot.record = some r →
     (k < h.lines →
       ∃ t, Completes (.programAttemptEnd false) s t ∧ s.EndsDeviceProgram false p t ∧
         t = { s with
               device := t.device, freeCount := t.freeCount
               port := { s.port with inFlight := none, opTimer := .stopped }
               boot :=
                 { s.boot with
                   step := .replayRead (k + 1), record := some { r with programmed := r.programmed + 1 } } }) ∧
     (h.lines ≤ k →
       ∃ t, Completes (.programAttemptEnd false) s t ∧ s.EndsDeviceProgram false p t ∧
         t =
           State.nextReplay
             { s with
               device := t.device, freeCount := t.freeCount
               port := { s.port with inFlight := none, opTimer := .stopped }
               boot :=
                 { s.boot with
                   toReplay := rest
                   record := some { r with programmed := r.programmed + 1, replayed := r.replayed + 1 } } }))

/-- R103, R104: PROGRAM_ATTEMPT_END with a failure. The page holds undefined bytes and the attempt has failed; below
three attempts the program retries at once, counted, or after a waiting host read of another page has run in the read
slot; after the third it ends with FAIL. R105: the first attempt of a program, whatever its requester, invalidates the
read buffer if it holds the page being programmed, and leaves a buffer of another page alone; so do later attempts and
reads. -/
def Obligations.ProgramAttemptsAndTheReadBuffer : Prop :=
  ((∀ (s : State) (op : Operation) (p : DeviceProgram), s.port.inFlight = some op → op.kind = .pageProgram →
     op.phase = .transfer → s.device.program = some p →
     ∃ t, Completes (.programAttemptEnd true) s t ∧ s.EndsDeviceProgram true p t ∧ t.device.program = none ∧
       t = { s with
             device := t.device, freeCount := s.freeCount + 1
             port := { s.port with inFlight := some { op with phase := .failed }, opTimer := .stopped } }) ∧
   (∀ (s : State) (op : Operation), s.port.inFlight = some op → op.phase = .failed → op.attempts < 3 →
     ((∀ q, s.readRequest = some q → q.page = op.page) →
       s.operationStep = some
         { s with
           port := { s.port with inFlight := some { op with phase := .start } }
           link :=
             { s.link with
               counters := { s.link.counters with programRetries := bump s.link.counters.programRetries } } }) ∧
     (∀ q e page offset, s.readRequest = some q → q.page ≠ op.page → s.control.mode ≠ some .holdup →
       s.control.mode ≠ some .starting →
       s.upstream.access = some { explicit := e, stage := .heldRead page offset false } →
       s.operationStep = some
         { s with
           upstream :=
             { s.upstream with access := some { explicit := e, stage := .heldRead page offset true } }
           port :=
             { s.port with
               suspended := some { op with phase := .start }
               inFlight :=
                 some
                   { requester := .readPath, kind := .pageRead, page := page, data := [], attempts := 0
                     phase := .start } }
           link :=
             { s.link with
               counters := { s.link.counters with programRetries := bump s.link.counters.programRetries } } })) ∧
   (∀ (s : State) (op : Operation), s.port.inFlight = some op → op.phase = .failed → 3 ≤ op.attempts →
     s.operationStep = some (s.endOperation op .fail))) ∧
  (∀ (s t : State) (op : Operation) (b : ReadBuffer), s.port.inFlight = some op → op.phase = .start →
     s.upstream.buffer = some b → s.operationStep = some t →
     t.upstream.buffer = if op.kind = .pageProgram ∧ op.attempts = 0 ∧ b.page = op.page then none else some b)

/-- R60, R72, R100, R103, R147 to R149: OPERATION_TIMER_EXPIRY, and the third failed attempt, of an engine in RUNNING
and DRAINING. The fault is recorded and the mode becomes HALTED; the engine keeps its state, the device is left as it
is, the page of a program that ran beyond the limit unknown (R102, log 42), that of one that was never sent as it was
(log 43), the drain is abandoned and the ambient group is sealed. R32, R126: a held write is refused with reason MODE
in the same event, an explicit one losing its OPEN or DEFERRED group. A seal that waits for a loose access whose
strobe has not come stays noted (log 12). R74, R135: in HOLDUP the fault is recorded too, but the mode stays
HOLDUP, and after a failed journal operation the journal engine has stopped. -/
def Obligations.EngineFaultHalts : Prop :=
  (∀ (s : State) (op : Operation) (timeout : Bool), s.control.mode = some .holdup → s.port.inFlight = some op →
    (op.requester = .journal ∨ op.requester = .apply) → s.port.suspended = none →
    s.FailureEnds op timeout
      { s.faultedBy op timeout with
        journal := { s.journal with stopped := s.journal.stopped || op.requester == .journal } }) ∧
  ∀ (s : State) (op : Operation) (timeout : Bool), s.GroupLaw →
    (s.control.mode = some .running ∨ s.control.mode = some .draining) → s.port.inFlight = some op →
    (op.requester = .journal ∨ op.requester = .apply) →
    (s.NoHeldWrite →
      s.FailureEnds op timeout
        { s.haltedBy op timeout with
          groups :=
            { s.groups.ambientSealed s.gathering with
              sealWaits := s.groups.sealWaits && s.looseWriteInProgress } }) ∧
    (∀ page offset data wait,
      s.upstream.access = some { explicit := false, stage := .heldWrite page offset data wait } →
      s.FailureEnds op timeout
        { s.haltedBy op timeout with
          groups := s.groups.ambientSealed s.gathering
          upstream := s.upstream.ended (.refused .mode), link := { s.link.refusal with drain := .none } }) ∧
    (∀ page offset data wait,
      s.upstream.access = some { explicit := true, stage := .heldWrite page offset data wait } →
      (∀ q, s.groups.current = .opened q →
        s.FailureEnds op timeout
          { s.haltedBy op timeout with
            lines := s.lines.filter fun l => l.owner != q
            groups := (s.groups.explicitLost q).ambientSealed s.gathering
            outcomes := s.outcomes.lost (.group q)
            upstream := s.upstream.ended (.refused .mode)
            link := { s.link.loss.refusal with drain := .none } }) ∧
      (s.groups.current = .deferred →
        s.FailureEnds op timeout
          { s.haltedBy op timeout with
            groups :=
              Groups.ambientSealed { s.groups with current := .lost none, openingWaits := false } s.gathering
            outcomes := s.outcomes.lost .current
            upstream := s.upstream.ended (.refused .mode)
            link := { s.link.loss.refusal with drain := .none } }))

/-- R101, R123, R148: a host read that ends with ARRAY_TIMEOUT is no fault: the waiting access completes with the fill
value, unserved, and the read buffer is left as it was. R89: an operation of a start-up that times out halts it: the
mode is HALTED with the fault record, and its progress is kept; a replay program that fails three times halts it with
REPLAY_FAIL. The page of a program that ran beyond the limit is unknown (R102, log 42), that of one that was never
sent as it was (log 43). -/
def Obligations.OtherTimeoutsAreRecordedOrUnserved : Prop :=
  (∀ (s : State) (op : Operation) (e : Bool) (page offset : Nat), s.port.inFlight = some op →
     op.requester = .readPath → op.kind = .pageRead → s.port.opTimer.isRunning = true →
     s.upstream.access = some { explicit := e, stage := .heldRead page offset true } →
     Completes .operationTimerExpiry s
       { s with
         port := { s.port with inFlight := s.port.suspended, suspended := none, opTimer := .stopped }
         upstream := s.upstream.ended (.byte 0xFF#8), link := s.link.unserved, monitor := s.activeMonitor }) ∧
  (∀ (s : State) (op : Operation), s.control.mode = some .starting → s.port.inFlight = some op →
     op.requester = .startUp → s.port.suspended = none → s.port.opTimer.isRunning = true →
     Completes .operationTimerExpiry s
       { s with
         device := s.deviceAfterTimeout op
         port := { s.port with inFlight := none, opTimer := .stopped }
         control :=
           { mode := some .halted
             fault :=
               some
                 { kind := .arrayTimeout, operation := op.kind, page := op.page
                   sequence :=
                     match s.boot.step, s.boot.toReplay with
                     | .replayRead _, h :: _ => h.sequence
                     | .replayProgram _ _, h :: _ => h.sequence
                     | _, _ => 0 }
             retryOwner := some .startUp, retrying := false } }) ∧
  (∀ (s : State) (op : Operation), s.control.mode = some .starting → op.requester = .startUp →
     s.port.suspended = none → ∀ k image h rest, s.boot.step = .replayProgram k image → s.boot.toReplay = h :: rest →
     s.endOperation op .fail =
       { s with
         port := { s.port with inFlight := none, opTimer := .stopped }
         control :=
           { mode := some .halted
             fault := some { kind := .replayFail, operation := op.kind, page := op.page, sequence := h.sequence }
             retryOwner := some .startUp, retrying := false } })

/-- R110, R111: the arbiter grants nothing while the array is not ON or an operation is in flight; else a host read
first, which is marked granted (R121), then the journal engine unless apply has waited through eight of its grants,
then the apply engine, then the start-up or link unit. The request becomes the operation in flight, and the fairness
count follows the grants of the two engines (R112). In HOLDUP the journal engine alone is granted (R113). -/
def Obligations.ArbiterGrantsInOrder : Prop :=
  (∀ s : State, s.port.power ≠ .on ∨ s.port.inFlight ≠ none ∨ s.port.suspended ≠ none → s.arbiterStep = none) ∧
  (∀ s : State, s.port.power = .on → s.port.inFlight = none → s.port.suspended = none →
    (∀ q, s.readRequest = some q → s.control.mode ≠ some .holdup →
      ∃ t, s.arbiterStep = some t ∧
        t.port.inFlight =
          some { requester := .readPath, kind := .pageRead, page := q.page, data := [], attempts := 0
                 phase := .start } ∧
        t.port.fairness = s.port.fairness ∧
        ∀ e page offset, s.upstream.access = some { explicit := e, stage := .heldRead page offset false } →
          t.upstream.access = some { explicit := e, stage := .heldRead page offset true }) ∧
    (s.readRequest = none →
      (∀ q, s.journalRequest = some q → s.applyRequest = none ∨ s.port.fairness < 8 →
        ∃ t, s.arbiterStep = some t ∧
          t.port.inFlight =
            some { requester := .journal, kind := q.kind, page := q.page, data := q.data, attempts := 0
                   phase := .start } ∧
          t = s.grantJournal q ∧
          t.port.fairness = if s.applyRequest.isSome then min 8 (s.port.fairness + 1) else s.port.fairness) ∧
      (∀ q, s.applyRequest = some q → s.journalRequest = none ∨ 8 ≤ s.port.fairness →
        ∃ t, s.arbiterStep = some t ∧
          t.port.inFlight =
            some { requester := .apply, kind := q.kind, page := q.page, data := q.data, attempts := 0
                   phase := .start } ∧
          t.port.fairness = 0) ∧
      (s.journalRequest = none → s.applyRequest = none →
        (∀ q, s.startUpRequest = some q →
          ∃ t, s.arbiterStep = some t ∧
            t.port.inFlight =
              some { requester := .startUp, kind := q.kind, page := q.page, data := q.data, attempts := 0
                     phase := .start }) ∧
        (s.startUpRequest = none → ∀ q, s.linkRequest = some q →
          ∃ t, s.arbiterStep = some t ∧
            t.port.inFlight =
              some { requester := .link, kind := q.kind, page := q.page, data := q.data, attempts := 0
                     phase := .start }) ∧
        (s.startUpRequest = none → s.linkRequest = none → s.arbiterStep = none)))) ∧
  (∀ s : State, s.control.mode = some .holdup →
    s.applyRequest = none ∧ s.startUpRequest = none ∧ s.linkRequest = none ∧
      (s.readRequest.isSome = true → s.arbiterStep = none))

/-- R112: the fairness count. It rises by 1 at each grant to the journal engine made while an apply request waits, and
stops at 8; it returns to 0 at each grant to the apply engine, at the beginning of every start-up and while RST# is
low; other grants leave it unchanged; at 8 the apply request is granted, but a read-path request comes first. The
count is not reported. -/
def Obligations.FairnessCount : Prop :=
  (∀ (s : State) (q : Request), s.applyRequest ≠ none →
    (s.grantJournal q).port.fairness = min 8 (s.port.fairness + 1)) ∧
  (∀ (s : State) (q : Request), s.applyRequest = none → (s.grantJournal q).port.fairness = s.port.fairness) ∧
  (∀ (s : State) (q : Request), (s.grantApply q).port.fairness = 0) ∧
  (∀ (s : State) (q : Request), (s.grantRead q).port.fairness = s.port.fairness) ∧
  (∀ (s : State) (op : Operation), op.attempts < 3 → (s.attemptFailed op).port.fairness = s.port.fairness) ∧
  (∀ (s : State) (q : Request), (s.grant .startUp q).port.fairness = s.port.fairness) ∧
  (∀ (s : State) (q : Request), (s.grant .link q).port.fairness = s.port.fairness) ∧
  (∀ (s : State) (cause : Cause) (r : StoreResult), (s.beginStartUp cause r).port.fairness = 0) ∧
  (∀ s : State, s.enterReset.port.fairness = 0) ∧
  (∀ (s : State) (j a : Request), s.port.power = .on → s.port.inFlight = none → s.port.suspended = none →
    s.port.fairness = 8 → s.journalRequest = some j → s.applyRequest = some a →
    (s.readRequest = none → s.arbiterStep = some (s.grantApply a)) ∧
    (∀ r, s.readRequest = some r → s.arbiterStep = some (s.grantRead r))) ∧
  (∀ (s : State) (j : Request), s.port.power = .on → s.port.inFlight = none → s.port.suspended = none →
    s.readRequest = none → s.journalRequest = some j → (s.applyRequest = none ∨ s.port.fairness < 8) →
    s.arbiterStep = some (s.grantJournal j)) ∧
  (∀ s t : State, s.RangeLaw → step s = .next t → t.port.fairness ≤ 8) ∧
  (∀ (s : State) (n : Nat), ({ s with port := { s.port with fairness := n } }).reportBlock = s.reportBlock)

/-! ### The journal and apply engines -/

/-- R50: a group with no lines becomes DURABLE at its turn, at once, without a record, without ring pages and without
an array operation, in RUNNING and DRAINING, and in HOLDUP whether or not the budget has expired, unless a group has
been declined there (R62) or the engine has stopped (R135). -/
def Obligations.EmptyGroupBecomesDurable : Prop :=
  ∀ (s : State) (g : Group),
    (s.control.mode = some .running ∨ s.control.mode = some .draining ∨
      (s.control.mode = some .holdup ∧ s.journal.declined = false ∧ s.journal.stopped = false)) →
    s.turn = some g → s.lineCount g.sequence = 0 →
    s.turnStep = some
      { s with
        groups :=
          { s.groups with
            table :=
              s.groups.table.map fun h => if h.sequence = g.sequence then { h with state := .durable } else h }
        journal := { s.journal with durable := g.sequence }
        outcomes :=
          { s.outcomes with
            queue :=
              s.outcomes.queue.map fun e =>
                if e.owner = .group g.sequence ∧ e.result = .pending then { e with result := .durable } else e }
        link :=
          { s.link with
            counters := { s.link.counters with groupsDurable := bump s.link.counters.groupsDurable } } }

/-- R49: the turn is that of the oldest group not yet DURABLE, if it is SEALED and no record is in progress; LOST
entries are passed over. In HALTED, STARTING, BARE, DOWN and reset no group is taken. R47, R51, R62: a group of n
lines, n at least 1, is allocated n + 2 pages at the tail when free pages, and in HOLDUP the remaining budget too,
suffice; the header carries the youngest retired sequence of that moment. In HOLDUP a group that fails a test is
declined; elsewhere it waits. R54, R55, R57, R58, R61: the journal engine's request is that of its position: the
header's program at the record's first page, the completion read of line k's home page where no older line has the
page, else a merge at once, line k's program at record page k, and the commit page's at n + 1; in HALTED only for a
retry. In HOLDUP it ends with a failure and with the budget (R113, R135, log 34). -/
def Obligations.RecordIsAllocatedAtItsTurn : Prop :=
  ((∀ (s : State) (g : Group), s.TableLaw →
     (s.turn = some g ↔
       s.journal.record = none ∧ g ∈ s.groups.table ∧ g.state = .sealed ∧
         ∀ h ∈ s.groups.table, h.sequence < g.sequence →
           h.state = .durable ∨ h.state = .applying ∨ h.state = .lost)) ∧
   (∀ s : State, s.control.mode = some .halted ∨ s.control.mode = some .starting ∨ s.control.mode = some .bare ∨
     s.control.mode = some .down ∨ s.control.mode = none → s.turnStep = none)) ∧
  (∀ (s : State) (g : Group) (n : Nat), s.turn = some g → s.lineCount g.sequence = n → 1 ≤ n →
     ∀ t : State,
       t = { s with
             groups :=
               { s.groups with
                 table :=
                   s.groups.table.map fun h =>
                     if h.sequence = g.sequence then { h with state := .journaling } else h }
             journal :=
               { s.journal with
                 tail := s.config.base + (s.journal.tail - s.config.base + (n + 2)) % s.config.length
                 inUse := s.journal.inUse + (n + 2)
                 record :=
                   some
                     { group := g.sequence, firstPage := s.journal.tail, position := .header, pagesDone := 0
                       header :=
                         composeHeader g.sequence n g.kind s.journal.retired
                           ((s.lineList g.sequence).map fun l => l.page)
                       check := 0xFFFFFFFF#32 } } } →
       (s.control.mode = some .running ∨ s.control.mode = some .draining →
         s.turnStep = if n + 2 ≤ s.config.length - s.journal.inUse then some t else none) ∧
       (s.control.mode = some .holdup → s.journal.declined = false → s.journal.stopped = false →
         s.turnStep =
           if n + 2 ≤ s.config.length - s.journal.inUse ∧ (n + 2) * s.config.programLimit ≤ s.monitor.holdUp.left
           then some t
           else some { s with journal := { s.journal with declined := true } })) ∧
  (∀ (s : State) (r : Record), s.journal.record = some r →
     (s.JournalMayWork ∨ s.RetryUnderWay .journal →
       (r.position = .header →
         s.journalRequest = some { kind := .pageProgram, page := r.firstPage, data := r.header }) ∧
       (∀ k l, r.position = .complete k → s.lineOf r.group k = some l →
         (s.completionSource r.group l.page = none →
           s.journalRequest = some { kind := .pageRead, page := l.page, data := [] }) ∧
         (∀ m, s.completionSource r.group l.page = some m → s.journalRequest = none)) ∧
       (∀ k l, r.position = .program k → s.lineOf r.group k = some l →
         s.journalRequest =
           some
             { kind := .pageProgram
               page := s.config.base + (r.firstPage - s.config.base + k) % s.config.length, data := l.image }) ∧
       (∀ n, r.position = .commit → s.lineCount r.group = n →
         s.journalRequest =
           some
             { kind := .pageProgram
               page := s.config.base + (r.firstPage - s.config.base + (n + 1)) % s.config.length
               data := composeCommit r.group n r.check })) ∧
     (s.JournalMayWork → ∀ k l m, r.position = .complete k → s.lineOf r.group k = some l →
       s.completionSource r.group l.page = some m →
       s.completionStep =
         some
           { s.completeLine r.group l.page m.image with
             journal := { s.journal with record := some { r with position := .program k } } }) ∧
     (¬ s.JournalMayWork → s.completionStep = none ∧ (¬ s.RetryUnderWay .journal → s.journalRequest = none))) ∧
  (∀ (s : State) (group k : Nat),
     (∀ l, s.lineOf group k = some l →
       s.positionOfLine group k = if l.isComplete then .program k else .complete k) ∧
     (s.lineOf group k = none → s.positionOfLine group k = .commit))

/-- R64, R65: in RUNNING and DRAINING, with the cursor absent, the oldest entry is taken for apply when it is
DURABLE: APPLYING, with the cursor at its first line. In HALTED and HOLDUP no group is taken. R35, R67, R69: the
apply engine's request is the program of the cursor's line to its home page, with the 64 bytes of that line, in
RUNNING and DRAINING and for a retry (R73); the cursor's group is APPLYING, so that no home page is requested of a
group that has not become DURABLE. -/
def Obligations.OldestDurableGroupIsAppliedHome : Prop :=
  ((∀ (s : State) (g : Group) (rest : List Group),
     (s.control.mode = some .running ∨ s.control.mode = some .draining) → s.cursor = none →
     s.groups.table = g :: rest → 1 ≤ s.lineCount g.sequence →
     s.applyStep =
       if g.state = .durable then
         some
           { s with
             groups :=
               { s.groups with
                 table :=
                   s.groups.table.map fun h =>
                     if h.sequence = g.sequence then { h with state := .applying } else h }
             cursor := some { group := g.sequence, line := 1 } }
       else none) ∧
   (∀ s : State, s.control.mode = some .halted ∨ s.control.mode = some .holdup → s.applyStep = none)) ∧
  (∀ (s : State) (q : Request), s.GroupsLaw → s.applyRequest = some q →
     ∃ c l, s.cursor = some c ∧ s.HasGroup c.group .applying ∧ s.lineOf c.group c.line = some l ∧ l ∈ s.lines ∧
       l.owner = c.group ∧ q.kind = .pageProgram ∧ q.page = l.page ∧ q.data = l.image) ∧
  (∀ (s : State) (c : Cursor) (l : Line),
     (s.control.mode = some .running ∨ s.control.mode = some .draining ∨ s.RetryUnderWay .apply) →
     s.cursor = some c → s.lineOf c.group c.line = some l →
     s.applyRequest = some { kind := .pageProgram, page := l.page, data := l.image })

/-- R41, R53, R70: retire. The lines, the record and the entry of the group are released in one event: the head
advances and pages in use falls by n + 2, neither for an empty group; the youngest retired sequence is the group's;
the reference of its outcome is dropped and the result kept; no other group changes. R2, R8, R17: a deferred group
that was lost while it waited takes the freed entry in LOST state, with the next sequence. -/
def Obligations.RetireReleasesTheGroup : Prop :=
  ∀ (s : State) (q n : Nat), s.lineCount q = n →
    s.retire q =
      { s with
        lines := s.lines.filter fun l => l.owner != q
        groups := s.groups.entryFreed q
        journal :=
          { s.journal with
            head :=
              if n = 0 then s.journal.head
              else s.config.base + (s.journal.head - s.config.base + (n + 2)) % s.config.length
            inUse := if n = 0 then s.journal.inUse else s.journal.inUse - (n + 2)
            retired := q }
        cursor := none
        outcomes := s.outcomes.dropReference (.group q) }

/-- R66: a group with no lines is taken for apply like any other and retires in the same event that takes it, in
RUNNING and DRAINING, whatever the array is doing. No array operation is requested, no page is invalidated and no ring
page is released; what changes is the youngest retired sequence and the entry, which a deferred group that was lost
while it waited takes in LOST state (R2, R8, R17). -/
def Obligations.EmptyGroupRetiresAtItsTaking : Prop :=
  ∀ (s : State) (g : Group) (rest : List Group), s.TableLaw →
    (s.control.mode = some .running ∨ s.control.mode = some .draining) → s.cursor = none →
    s.groups.table = g :: rest → g.state = .durable → s.lineCount g.sequence = 0 →
    s.applyStep = some
      { s with
        groups :=
          if s.groups.current = .lost none ∧ s.groups.nextSequence < 2 ^ 48 - 1 then
            { s.groups with
              table := rest ++ [{ sequence := s.groups.nextSequence, kind := .explicit, state := .lost }]
              nextSequence := s.groups.nextSequence + 1
              current := .lost (some s.groups.nextSequence) }
          else { s.groups with table := rest }
        journal := { s.journal with retired := g.sequence }
        outcomes := s.outcomes.dropReference (.group g.sequence) }

/-! ### The maintenance link -/

/-- R141, R145, R160, R161: LINK_WRITE_TRANSACTION_END and LINK_TRANSACTION_END. The part acknowledges its own
address alone, in every mode but DOWN and not in reset, and the first 50 data bytes of a write, but none of one that
begins while a command is undecided; such a write is disregarded, and its end is LINK_TRANSACTION_END if the
decision comes before it (log 10). The end is an activity event. A write of at least one byte takes a command unless
one is undecided, in the mode of that moment (R162): the response is PENDING, and a SEAL, RESTART or STORE wakes a
dozing part. -/
def Obligations.TransactionsTakeCommands : Prop :=
  (∀ (s : State) (address : LinkAddress),
    (s.acknowledges address = true ↔
      s.control.mode ≠ none ∧ s.control.mode ≠ some .down ∧ address = s.link.address) ∧
    ∀ k, s.acknowledgesByte address k = true ↔
      s.acknowledges address = true ∧ s.link.taken = none ∧ k ≤ 50) ∧
  (∀ (s : State) (address : LinkAddress), s.acknowledges address = true →
    Completes (.linkTransactionEnd address) s { s with monitor := s.activeMonitor } ∧
    (∀ bytes, bytes = [] ∨ s.link.taken ≠ none →
      Completes (.linkWriteTransactionEnd address bytes) s { s with monitor := s.activeMonitor }) ∧
    (∀ bytes mode, bytes ≠ [] → s.link.taken = none → s.control.mode = some mode → mode ≠ .dozing →
      Completes (.linkWriteTransactionEnd address bytes) s
        { s with
          link :=
            { s.link with
              taken := some { bytes := bytes, mode := mode, retrying := s.control.retrying }
              response := { status := .pending, data := [] } }
          monitor := s.activeMonitor }) ∧
    (∀ c bytes, linkBytes c = some bytes → s.link.taken = none → s.control.mode = some .dozing →
      (c = .seal ∨ c = .restart ∨ (∃ fields, c = .store fields) →
        Completes (.linkWriteTransactionEnd address bytes) s
          { s.woken with
            link :=
              { s.link with
                taken := some { bytes := bytes, mode := .running, retrying := s.control.retrying }
                response := { status := .pending, data := [] } } }) ∧
      (c ≠ .seal → c ≠ .restart → (∀ fields, c ≠ .store fields) →
        Completes (.linkWriteTransactionEnd address bytes) s
          { s with
            link :=
              { s.link with
                taken := some { bytes := bytes, mode := .dozing, retrying := s.control.retrying }
                response := { status := .pending, data := [] } } }))) ∧
  (∀ (s : State) (address : LinkAddress) (bytes : List Byte), s.acknowledges address = false →
    exec (.linkTransactionEnd address) s = .next s ∧ exec (.linkWriteTransactionEnd address bytes) s = .next s)

/-- R161, R162: a command of the link is turned away by the mode when it was taken, as R162 tabulates, and UNKNOWN
answers bytes that name no command with its count. Nothing but the response changes, beside the activity of the
transaction's end. A decision with no transaction's end before it stands for both (log 11). -/
def Obligations.CommandsAreTurnedAway : Prop :=
  (∀ (s : State) (mode : Mode) (c : Instr) (bytes : List Byte) (status : Status),
    linkBytes c = some bytes → s.AtDecision bytes mode → turnedAway mode c = some status →
    Completes c s { s with link := s.link.answered status [], monitor := s.decisionMonitor }) ∧
  (∀ (s : State) (bytes : List Byte) (mode : Mode), bytes ≠ [] → namesCommand bytes = false →
    s.AtDecision bytes mode →
    Completes (.unknown bytes) s { s with link := s.link.answered .unknown [], monitor := s.decisionMonitor }) ∧
  (∀ (s : State) (c : Instr) (bytes : List Byte), c = .seal ∨ c = .restart ∨ (∃ fields, c = .store fields) →
    s.control.mode = some .dozing → linkBytes c = some bytes → s.link.taken = none → exec c s = exec c s.woken)

/-- R163, R164, R167: REPORT, READ_CONFIG and CLEAR. REPORT answers with the 95 bytes of the report block in every
mode and without a wake, each field at its place in the layout of 11_formats; READ_CONFIG with the 64-byte image of
the active configuration, or NOTHING without one; CLEAR clears the event flags that the mask names and, with a
non-zero option, all counters. They change nothing else, beside the activity of the transaction's end. A decision
with no transaction's end before it stands for both (log 11). -/
def Obligations.CommandsReadAndClear : Prop :=
  (∀ s : State, s.reportBlock.length = 95) ∧
  (∀ s : State,
    (∀ mode code,
      (mode, code) ∈
        [(Mode.starting, 1), (.bare, 2), (.running, 3), (.dozing, 4), (.draining, 5), (.halted, 6), (.holdup, 7)] →
      s.control.mode = some mode → Field s.reportBlock 0 1 code) ∧
    (s.control.fault = none → Field s.reportBlock 1 10 0) ∧
    (∀ f, s.control.fault = some f →
      (∀ kind code,
        (kind, code) ∈
          [(FaultKind.journalFail, 1), (.applyFail, 2), (.replayFail, 3), (.arrayTimeout, 4)] →
        f.kind = kind → Field s.reportBlock 1 1 code) ∧
      (f.operation = .pageRead → Field s.reportBlock 2 1 1) ∧ (f.operation = .pageProgram → Field s.reportBlock 2 1 2) ∧
      Field s.reportBlock 3 2 f.page ∧ Field s.reportBlock 5 6 f.sequence) ∧
    (∀ bit set,
      (bit, set) ∈
        [(0, s.link.flags.refused), (1, s.link.flags.lost), (2, s.link.flags.unserved), (3, s.link.flags.started),
          (4, s.link.flags.storeFailed), (5, s.link.flags.dropped), (6, s.inMode .halted), (7, s.inMode .bare)] →
      (byteAt s.reportBlock 11).getLsbD bit = set) ∧
    (∀ power code, (power, code) ∈ [(PowerState.off, 0), (.waking, 1), (.on, 2)] →
      s.port.power = power → Field s.reportBlock 12 1 code) ∧
    (∀ offset width value,
      (offset, width, value) ∈
        [(13, 1, s.groups.table.length), (14, 1, s.lines.length), (15, 1, s.outcomes.queue.length),
          (16, 2, s.config.length - s.journal.inUse), (18, 6, s.groups.nextSequence), (24, 6, s.journal.durable),
          (30, 6, s.journal.retired), (36, 4, s.link.counters.writesStaged), (40, 4, s.link.counters.writesRefused),
          (44, 4, s.link.counters.groupsDurable), (48, 4, s.link.counters.groupsLost),
          (52, 4, s.link.counters.readsUnserved), (56, 4, s.link.counters.programRetries),
          (60, 4, s.link.counters.stallExpiries), (64, 4, s.link.counters.earlyAccesses),
          (68, 4, s.link.counters.outcomesDropped)] →
      Field s.reportBlock offset width value) ∧
    (∀ r, s.boot.record = some r →
      (∀ cause code,
        (cause, code) ∈
          [(Cause.powerOn, 1), (.resetLine, 2), (.supplyRecovery, 3), (.restart, 4), (.store, 5)] →
        r.cause = cause → Field s.reportBlock 72 1 code) ∧
      (∀ copy code, (copy, code) ∈ [(Copy.none, 0), (.a, 1), (.b, 2)] →
        r.copy = copy → Field s.reportBlock 73 1 code) ∧
      (∀ offset width value,
        (offset, width, value) ∈
          [(74, 4, r.generation), (78, 2, r.validHeaders), (80, 2, r.replayed), (82, 2, r.skipped),
            (84, 2, r.incomplete), (86, 2, r.programmed), (88, 6, r.cutOff)] →
        Field s.reportBlock offset width value) ∧
      (∀ result code,
        (result, code) ∈
          [(StoreResult.none, 0), (.stored, 1), (.formatFailed, 2), (.copyFailed, 3)] →
        r.storeResult = result → Field s.reportBlock 94 1 code))) ∧
  (∀ (s : State) (mode : Mode), s.AtDecision [0x10#8] mode →
    Completes .report s { s with link := s.link.answered .done s.reportBlock, monitor := s.decisionMonitor }) ∧
  (∀ (s : State) (mode : Mode), s.AtDecision [0x70#8] mode → mode ≠ .starting →
    (∀ image, s.boot.active = some image → mode ≠ .bare →
      Completes .readConfig s { s with link := s.link.answered .done image, monitor := s.decisionMonitor }) ∧
    (s.boot.active = none →
      Completes .readConfig s { s with link := s.link.answered .nothing [], monitor := s.decisionMonitor })) ∧
  (∀ (s : State) (flagMask countersOption : Byte) (mode : Mode),
    s.AtDecision [0x20#8, flagMask, countersOption] mode → mode ≠ .starting →
    Completes (.clear flagMask countersOption) s
      { s with
        link :=
          { s.link.answered .done [] with
            flags :=
              { refused := s.link.flags.refused && !flagMask.getLsbD 0
                lost := s.link.flags.lost && !flagMask.getLsbD 1
                unserved := s.link.flags.unserved && !flagMask.getLsbD 2
                started := s.link.flags.started && !flagMask.getLsbD 3
                storeFailed := s.link.flags.storeFailed && !flagMask.getLsbD 4
                dropped := s.link.flags.dropped && !flagMask.getLsbD 5 }
            counters := if countersOption = 0#8 then s.link.counters else .zero }
        monitor := s.decisionMonitor })

/-- R165, R166: ATTN is high exactly when a flag is set whose entry in the attention mask in use is enabled, the part
being out of reset and not in DOWN. In BARE every flag is enabled; elsewhere the active configuration's byte 27
counts, and without one nothing. HALT and BARE follow the mode. -/
def Obligations.AttnFollowsFlagsAndMask : Prop :=
  ∀ s : State,
    (s.attn = true ↔
      s.control.mode ≠ none ∧ s.control.mode ≠ some .down ∧
        (s.control.mode = some .bare ∨
          ∃ image, s.boot.active = some image ∧
            ∃ bit set, (bit, set) ∈
              [(0, s.link.flags.refused), (1, s.link.flags.lost), (2, s.link.flags.unserved),
                (3, s.link.flags.started), (4, s.link.flags.storeFailed), (5, s.link.flags.dropped),
                (6, s.inMode .halted)] ∧
              set = true ∧ (byteAt image 27).getLsbD bit = true))

/-- R90, R154 to R156: RESUME in HALTED starts a retry, or is REFUSED_BUSY while one is under way. The retry that
passes hands its result over, of the journal engine, the apply engine and the start-up unit at whatever step, as the
failed operation's pass would have been handed over, and ends HALTED: RUNNING with the fault record kept, or, in a
halted start-up, STARTING with the outcome queue emptied and the current explicit group cleared. One that fails,
whether with FAIL or ARRAY_TIMEOUT, changes the kind of the fault alone. A decision with no transaction's end before
it stands for both (log 11). -/
def Obligations.ResumeRetriesTheFailedOperation : Prop :=
  (∀ s : State, s.control.mode = some .halted → s.control.retrying = false →
    (s.link.taken = none ∨ s.link.taken = some { bytes := [0x40#8], mode := .halted, retrying := false }) →
    Completes .resume s
      { s with
        control := { s.control with retrying := true }, link := s.link.answered .done []
        monitor := s.decisionMonitor }) ∧
  (∀ s : State, s.AtDecision [0x40#8] .halted →
    (s.control.retrying = true ∨
      s.link.taken = some { bytes := [0x40#8], mode := .halted, retrying := true }) →
    Completes .resume s { s with link := s.link.answered .refusedBusy [], monitor := s.decisionMonitor }) ∧
  (∀ (s : State) (op : Operation) (c : Instr), s.control.mode = some .halted → s.port.inFlight = some op →
    op.phase = .transfer →
    ((op.kind = .pageProgram ∧ c = .programAttemptEnd false) ∨ (op.kind = .pageRead ∧ c = .pageReadEnd)) →
    (op.requester = .journal ∨ op.requester = .apply →
      exec c s = exec c { s with control := { s.control with mode := some .running, retrying := false } }) ∧
    (op.requester = .startUp →
      exec c s =
        exec c
          { s with
            control := { s.control with mode := some .starting, retrying := false }
            outcomes := .start
            groups :=
              { s.groups with current := .none, openingWaits := false, sealWaits := false, noted := [] } })) ∧
  (∀ (s : State) (op : Operation) (p : DeviceProgram) (c : Cursor), s.control.mode = some .halted →
    s.port.inFlight = some op → op.kind = .pageProgram → op.phase = .transfer → op.requester = .apply →
    s.port.suspended = none → s.device.program = some p → s.cursor = some c → c.line < s.lineCount c.group →
    ∃ t, Completes (.programAttemptEnd false) s t ∧ s.EndsDeviceProgram false p t ∧
      t = { s with
            control := { s.control with mode := some .running, retrying := false }
            device := t.device, freeCount := t.freeCount
            port := { s.port with inFlight := none, opTimer := .stopped }
            cursor := some { c with line := c.line + 1 }
            monitor :=
              if s.config.dozeIdle = 0 then s.monitor
              else { s.monitor with dozeIdle := .running s.config.dozeIdle } }) ∧
  (∀ (s : State) (op : Operation), s.control.mode = some .halted → s.port.inFlight = some op →
    op.kind = .pageRead → op.phase = .transfer → op.requester = .startUp → s.port.suspended = none →
    s.boot.step = .readCopyA →
    Completes .pageReadEnd s
      { s with
        control := { s.control with mode := some .starting, retrying := false }
        port := { s.port with inFlight := none, opTimer := .stopped }
        outcomes := .start
        groups := { s.groups with current := .none, openingWaits := false, sealWaits := false, noted := [] }
        boot :=
          { s.boot with
            step :=
              .readCopyB
                (if s.device.isUndefined op.page = false ∧ validCopy (s.device.readPage op.page) = true then
                  some (s.device.readPage op.page)
                else none) } }) ∧
  (∀ (s : State) (op : Operation), s.control.mode = some .halted → s.port.inFlight = some op →
    (op.requester = .journal ∨ op.requester = .apply ∨ op.requester = .startUp) → s.port.suspended = none →
    s.port.opTimer.isRunning = true →
    Completes .operationTimerExpiry s
      { s with
        control :=
          { s.control with
            fault := s.control.fault.map fun f => { f with kind := .arrayTimeout }, retrying := false }
        device := s.deviceAfterTimeout op
        port := { s.port with inFlight := none, opTimer := .stopped } }) ∧
  (∀ (s : State) (op : Operation), s.control.mode = some .halted →
    (op.requester = .journal ∨ op.requester = .apply ∨ op.requester = .startUp) → s.port.suspended = none →
    s.endOperation op .fail =
      { s with
        control :=
          { s.control with
            fault := s.control.fault.map fun f => { f with kind := faultKindOf op.requester false }
            retrying := false }
        port := { s.port with inFlight := none, opTimer := .stopped } })

/-- R157, R170, R172: RESTART is answered DONE. Taken in BARE and RUNNING, it begins the drain: DRAINING with kind
RESTART, the ambient group sealed, at the end of a loose write that has joined it, the doze idle timer stopped, the
rest as it was; decided only when the part has entered HALTED or HOLDUP, it begins none (R135, R149, log 41). Taken in
HALTED it begins a start-up with cause RESTART at once. A decision with no transaction's end before it stands for both
(log 11). -/
def Obligations.RestartDrainsOrStartsUp : Prop :=
  (∀ (s : State) (mode : Mode), mode = .bare ∨ mode = .running → s.AtDecision [0x50#8] mode →
    (s.control.mode = some .bare ∨ s.control.mode = some .running →
      Completes .restart s
        { s with
          control := { s.control with mode := some .draining }
          groups := s.sealRequested
          link := { s.link.answered .done [] with drain := .restart }
          monitor := { s.monitor with dozeIdle := .stopped } }) ∧
    (s.control.mode = some .halted ∨ s.control.mode = some .holdup →
      Completes .restart s { s with link := s.link.answered .done [] })) ∧
  (∀ s : State, s.AtDecision [0x50#8] .halted →
    ∃ t, exec .restart s = .next t ∧ State.BeginsStartUp .restart .none s t)

/-- R171, R172, R181: STORE taken in BARE and RUNNING. With the active generation at its maximum it is REFUSED_FIELD
with index 0, else with the lowest index of a field that fails its test; a region that differs from the active one
and meets it is REFUSED_OVERLAP; a STORE that passes is answered DONE and begins the drain with the fields kept, the
ambient group sealed as by RESTART; decided in HALTED or HOLDUP it begins none (R135, R149, log 41). A decision with
no transaction's end before it stands for both (log 11). -/
def Obligations.StoreIsValidated : Prop :=
  ∀ (s : State) (fields : List Byte) (mode : Mode), mode = .bare ∨ mode = .running →
    fields.length = 49 → s.AtDecision (0x60#8 :: fields) mode →
    ((∃ image, s.boot.active = some image ∧ 2 ^ 32 - 1 ≤ (Configuration.parse image).generation) →
      Completes (.store fields) s
        { s with link := s.link.answered .refusedField [0#8], monitor := s.decisionMonitor }) ∧
    ((∀ image, s.boot.active = some image → (Configuration.parse image).generation < 2 ^ 32 - 1) →
      (∀ k, k < 20 → (parseStoreFields fields).fieldValid k = false →
        (∀ j, j < k → (parseStoreFields fields).fieldValid j = true) →
        Completes (.store fields) s
          { s with
            link := s.link.answered .refusedField [BitVec.ofNat 8 k], monitor := s.decisionMonitor }) ∧
      ((∀ k, k < 20 → (parseStoreFields fields).fieldValid k = true) →
        (∀ image, s.boot.active = some image →
          ((parseStoreFields fields).base ≠ (Configuration.parse image).base ∨
            (parseStoreFields fields).length ≠ (Configuration.parse image).length) →
          RegionsMeet (Configuration.parse image).base (Configuration.parse image).length
            (parseStoreFields fields).base (parseStoreFields fields).length →
          Completes (.store fields) s
            { s with link := s.link.answered .refusedOverlap [], monitor := s.decisionMonitor }) ∧
        ((∀ image, s.boot.active = some image →
            ((parseStoreFields fields).base = (Configuration.parse image).base ∧
              (parseStoreFields fields).length = (Configuration.parse image).length) ∨
            ¬ RegionsMeet (Configuration.parse image).base (Configuration.parse image).length
              (parseStoreFields fields).base (parseStoreFields fields).length) →
          (s.control.mode = some .bare ∨ s.control.mode = some .running →
            Completes (.store fields) s
              { s with
                control := { s.control with mode := some .draining }
                groups := s.sealRequested
                link := { s.link.answered .done [] with drain := .store fields .drain }
                monitor := { s.monitor with dozeIdle := .stopped } }) ∧
          (s.control.mode = some .halted ∨ s.control.mode = some .holdup →
            Completes (.store fields) s { s with link := s.link.answered .done [] }))))

/-- R159, R173, R175 to R177: a drain ends when the table and the outcome queue are empty and GRP# is high, and not
before: in the start-up for RESTART, in the copy for a STORE that keeps the region, else in the format with the read
buffer invalidated. The format programs zeros page by page in ascending order, the copy goes to the slot that is not
active, and the start-up carries the store result, of a failure too, whether FAIL or ARRAY_TIMEOUT; the slot of a copy
program that ran beyond the limit is unknown (R102, R159, log 42). -/
def Obligations.DrainEndsAndTheStoreRuns : Prop :=
  (∀ s : State, s.groups.table ≠ [] ∨ s.pins.grp = false ∨ s.outcomes.queue ≠ [] → s.drainStep = none) ∧
  (∀ s : State, s.control.mode = some .draining → s.groups.table = [] → s.pins.grp = true → s.outcomes.queue = [] →
    (s.link.drain = .restart → ∃ t, s.drainStep = some t ∧ State.BeginsStartUp .restart .none s t) ∧
    (∀ fields, s.link.drain = .store fields .drain →
      ((∃ image, s.boot.active = some image ∧
          (Configuration.parse image).base = (parseStoreFields fields).base ∧
          (Configuration.parse image).length = (parseStoreFields fields).length) →
        s.drainStep = some { s with link := { s.link with drain := .store fields .copy } }) ∧
      ((∀ image, s.boot.active = some image →
          (Configuration.parse image).base ≠ (parseStoreFields fields).base ∨
            (Configuration.parse image).length ≠ (parseStoreFields fields).length) →
        s.drainStep =
          some
            { s with
              upstream := { s.upstream with buffer := none }
              link :=
                { s.link with drain := .store fields (.format (parseStoreFields fields).base) } }))) ∧
  (∀ (s : State) (fields : List Byte), s.control.mode = some .draining →
    (∀ page, s.link.drain = .store fields (.format page) →
      s.linkRequest = some (.program page (List.replicate 64 0#8))) ∧
    (∀ image r, s.link.drain = .store fields .copy → s.boot.active = some image → s.boot.record = some r →
      r.copy ≠ .none →
      s.linkRequest =
        some
          (.program (if r.copy = .a then 16383 else 16382)
            (composeCopy ((Configuration.parse image).generation + 1) (min s.groups.nextSequence (2 ^ 48 - 2))
              fields))) ∧
    (∀ r, s.link.drain = .store fields .copy → s.boot.active = none → s.boot.record = some r → r.copy = .none →
      s.linkRequest = some (.program 16382 (composeCopy 1 1 fields)))) ∧
  (∀ (s : State) (op : Operation) (p : DeviceProgram) (fields : List Byte), s.control.mode = some .draining →
    s.port.inFlight = some op → op.kind = .pageProgram → op.phase = .transfer → op.requester = .link →
    s.port.suspended = none → s.device.program = some p →
    (∀ page, s.link.drain = .store fields (.format page) →
      ∃ t, Completes (.programAttemptEnd false) s t ∧ s.EndsDeviceProgram false p t ∧
        t = { s with
              device := t.device, freeCount := t.freeCount
              port := { s.port with inFlight := none, opTimer := .stopped }
              link :=
                { s.link with
                  drain :=
                    if page + 1 < (parseStoreFields fields).base + (parseStoreFields fields).length then
                      .store fields (.format (page + 1))
                    else .store fields .copy } }) ∧
    (s.link.drain = .store fields .copy →
      ∃ t, exec (.programAttemptEnd false) s = .next t ∧ s.EndsDeviceProgram false p t ∧
        State.BeginsStartUp .store .stored { s with device := t.device, freeCount := t.freeCount } t)) ∧
  (∀ (s : State) (op : Operation) (fields : List Byte), s.control.mode = some .draining →
    s.port.inFlight = some op → op.requester = .link → s.port.opTimer.isRunning = true →
    (∀ page, s.link.drain = .store fields (.format page) →
      ∃ t, exec .operationTimerExpiry s = .next t ∧
        State.BeginsStartUp .store .formatFailed { s with device := s.deviceAfterTimeout op } t) ∧
    (s.link.drain = .store fields .copy →
      ∃ t, exec .operationTimerExpiry s = .next t ∧
        State.BeginsStartUp .store .copyFailed { s with device := s.deviceAfterTimeout op } t)) ∧
  (∀ (s : State) (op : Operation) (fields : List Byte), s.control.mode = some .draining → op.requester = .link →
    (∀ page, s.link.drain = .store fields (.format page) →
      State.BeginsStartUp .store .formatFailed s (s.endOperation op .fail)) ∧
    (s.link.drain = .store fields .copy → State.BeginsStartUp .store .copyFailed s (s.endOperation op .fail)))

/-! ### Start-up and the formats -/

/-- R82 to R84: PAGE_READ_END of the two configuration reads. The valid copy with the higher generation is selected,
copy A on equal generations, and the scan begins; a torn copy, or one whose program failed, is invalid (R159); with
neither valid the start-up ends in BARE, with STARTED set, the next sequence 1, the fault record empty (log 19), and
the current explicit group by the level of GRP#. -/
def Obligations.ConfigurationIsSelected : Prop :=
  ∀ (s : State) (op : Operation), s.control.mode = some .starting → s.port.inFlight = some op →
    op.kind = .pageRead → op.phase = .transfer → op.requester = .startUp → s.port.suspended = none →
    (s.boot.step = .readCopyA →
      Completes .pageReadEnd s
        { s with
          port := { s.port with inFlight := none, opTimer := .stopped }
          boot :=
            { s.boot with
              step :=
                .readCopyB
                  (if s.device.isUndefined op.page = false ∧ validCopy (s.device.readPage op.page) = true then
                    some (s.device.readPage op.page)
                  else none) } }) ∧
    (∀ copyA r, s.boot.step = .readCopyB copyA → s.boot.record = some r →
      (∀ a, copyA = some a →
        (s.device.isUndefined op.page = true ∨ validCopy (s.device.readPage op.page) = false ∨
          (Configuration.parse (s.device.readPage op.page)).generation ≤ (Configuration.parse a).generation) →
        Completes .pageReadEnd s
          { s with
            port := { s.port with inFlight := none, opTimer := .stopped }
            boot :=
              { s.boot with
                step := .scan 0, active := some a
                record := some { r with copy := .a, generation := (Configuration.parse a).generation } } }) ∧
      (s.device.isUndefined op.page = false → validCopy (s.device.readPage op.page) = true →
        (∀ a, copyA = some a →
          (Configuration.parse a).generation < (Configuration.parse (s.device.readPage op.page)).generation) →
        Completes .pageReadEnd s
          { s with
            port := { s.port with inFlight := none, opTimer := .stopped }
            boot :=
              { s.boot with
                step := .scan 0, active := some (s.device.readPage op.page)
                record :=
                  some
                    { r with
                      copy := .b
                      generation := (Configuration.parse (s.device.readPage op.page)).generation } } }) ∧
      (copyA = none →
        (s.device.isUndefined op.page = true ∨ validCopy (s.device.readPage op.page) = false) →
        Completes .pageReadEnd s
          { s with
            control := { mode := some .bare, fault := none, retryOwner := none, retrying := false }
            groups :=
              { Groups.start with
                nextSequence := 1, current := if s.pins.grp then .none else .refused }
            lines := []
            port := { s.port with inFlight := none, opTimer := .stopped }
            link :=
              { s.link with
                flags :=
                  { s.link.flags with
                    started := true
                    storeFailed :=
                      s.link.flags.storeFailed ||
                        (r.cause == .store && (r.storeResult == .formatFailed || r.storeResult == .copyFailed)) } }
            monitor := { s.monitor with dozeIdle := .stopped }
            boot := { s.boot with step := .idle, headers := [], toReplay := [] } }))

/-- R86 to R88: the cut-off. R is the largest RETIRED-THROUGH of the valid headers, or the floor less 1 where there is
none; the complete records above R, one for each SEQUENCE, are the ones to replay, in ascending SEQUENCE; those at or
below R are counted as skipped, and R is written into the start-up record. -/
def Obligations.CutOffSelectsTheRecordsToReplay : Prop :=
  (∀ floor, cutOffOf floor [] = floor - 1) ∧
  (∀ (floor : Nat) (headers : List FoundHeader), headers ≠ [] →
    (∃ h ∈ headers, h.retiredThrough = cutOffOf floor headers) ∧
      ∀ h ∈ headers, h.retiredThrough ≤ cutOffOf floor headers) ∧
  (∀ (cutOff : Nat) (headers : List FoundHeader),
    (recordsToReplay cutOff headers).Pairwise (fun g h => g.sequence < h.sequence) ∧
    (∀ h, h ∈ recordsToReplay cutOff headers ↔ h ∈ completeRecords headers ∧ cutOff < h.sequence) ∧
    (∀ h, h ∈ recordsSkipped cutOff headers ↔ h ∈ completeRecords headers ∧ h.sequence ≤ cutOff) ∧
    (∀ h ∈ completeRecords headers, h ∈ headers ∧ h.complete = some true) ∧
    (∀ h ∈ headers, h.complete = some true → ∃ g ∈ completeRecords headers, g.sequence = h.sequence)) ∧
  (∀ (s : State) (i : Nat), s.boot.headers.length ≤ i → s.judgeFrom i = s.setCutOff) ∧
  (∀ (s : State) (r : StartUpRecord), s.boot.record = some r →
    s.setCutOff =
      State.nextReplay
        { s with
          boot :=
            { s.boot with
              record :=
                some
                  { r with
                    cutOff := cutOffOf s.config.floor s.boot.headers
                    skipped :=
                      (recordsSkipped (cutOffOf s.config.floor s.boot.headers) s.boot.headers).length }
              toReplay := recordsToReplay (cutOffOf s.config.floor s.boot.headers) s.boot.headers } }) ∧
  (∀ (s : State) (h : FoundHeader) (rest : List FoundHeader), s.boot.toReplay = h :: rest →
    s.nextReplay = { s with boot := { s.boot with step := .replayRead 1 } })

/-- R93: the next sequence after a start-up is the larger of the floor and one more than the highest SEQUENCE of any
valid header, at most 2^48 - 1; without a header it is the floor. -/
def Obligations.NextSequenceAfterAStartUp : Prop :=
  (∀ floor, floor ≤ 2 ^ 48 - 1 → nextSequenceAfter floor [] = floor) ∧
  (∀ (floor : Nat) (headers : List FoundHeader) (h : FoundHeader), h ∈ headers →
    (∀ g ∈ headers, g.sequence ≤ h.sequence) →
    nextSequenceAfter floor headers = min (2 ^ 48 - 1) (max floor (h.sequence + 1))) ∧
  (∀ s : State, s.endInRunning.groups.nextSequence = nextSequenceAfter s.config.floor s.boot.headers)

/-- R5, R92, R94: the end of a start-up in RUNNING. The ring is empty, with head and tail after the youngest complete
record; the youngest retired and durable sequences are the larger of R and the highest SEQUENCE replayed; STARTED is
set, the fault record cleared, and the level of GRP# gives the current explicit group. -/
def Obligations.StartUpEndsInRunning : Prop :=
  (∀ (s : State) (r : StartUpRecord), s.boot.record = some r →
    ∃ retired position,
      s.endInRunning =
        { s with
          control := { mode := some .running, fault := none, retryOwner := none, retrying := false }
          groups :=
            { Groups.start with
              nextSequence := nextSequenceAfter s.config.floor s.boot.headers
              current := if s.pins.grp then .none else .refused }
          lines := []
          journal :=
            { s.journal with
              head := position, tail := position, inUse := 0, retired := retired, durable := retired }
          link :=
            { s.link with
              flags :=
                { s.link.flags with
                  started := true
                  storeFailed :=
                    s.link.flags.storeFailed ||
                      (r.cause == .store && (r.storeResult == .formatFailed || r.storeResult == .copyFailed)) } }
          monitor := { s.monitor with dozeIdle := .stopped }
          boot := { s.boot with step := .idle, headers := [], toReplay := [] } } ∧
        (∀ h ∈ recordsToReplay r.cutOff s.boot.headers, h.sequence ≤ retired) ∧
        (retired = r.cutOff ∨ ∃ h ∈ recordsToReplay r.cutOff s.boot.headers, h.sequence = retired) ∧
        r.cutOff ≤ retired ∧
        (completeRecords s.boot.headers = [] → position = s.config.base) ∧
        (∀ h ∈ completeRecords s.boot.headers,
          (∀ g ∈ completeRecords s.boot.headers, g.sequence ≤ h.sequence) →
          position = s.config.base + (h.page - s.config.base + (h.lines + 2)) % s.config.length)) ∧
  (∀ (s : State) (r : StartUpRecord), s.boot.toReplay = [] → s.nextReplay = s.endInRunning)

/-- R47, R58, R82, R85, R86, R171, R178, R179: what the part composes, it judges valid, field for field. A copy
composed from fields that pass the tests is valid and reads back as them; a header reads back as its group, and a
commit page completes the record of its header alone. The check code is the one of R178. -/
def Obligations.ComposedPagesAreJudgedValid : Prop :=
  checkCode [0x31#8, 0x32#8, 0x33#8, 0x34#8, 0x35#8, 0x36#8, 0x37#8, 0x38#8, 0x39#8] = 0xCBF43926#32 ∧
  (∀ (generation floor : Nat) (fields : List Byte), generation < 2 ^ 32 → 1 ≤ floor → floor ≤ 2 ^ 48 - 2 →
    fields.length = 49 → (parseStoreFields fields).firstBadField = none →
    (composeCopy generation floor fields).length = 64 ∧ validCopy (composeCopy generation floor fields) = true ∧
      Configuration.parse (composeCopy generation floor fields) =
        { parseStoreFields fields with generation := generation, floor := floor }) ∧
  (∀ (c : Configuration) (page sequence retired : Nat) (kind : GroupKind) (pages : List Nat), sequence < 2 ^ 48 →
    retired < 2 ^ 48 → 1 ≤ pages.length → pages.length ≤ 22 →
    (∀ p ∈ pages, p < 16384 ∧ c.isReserved p = false) →
    (composeHeader sequence pages.length kind retired pages).length = 64 ∧
      judgeHeader c page (composeHeader sequence pages.length kind retired pages) =
        some
          { page := page, sequence := sequence, lines := pages.length, retiredThrough := retired, pages := pages
            check := checkOver checkStart (composeHeader sequence pages.length kind retired pages)
            complete := none }) ∧
  (∀ (h : FoundHeader) (check : CheckWord) (sequence lines : Nat), h.sequence < 2 ^ 48 → h.lines < 256 →
    sequence < 2 ^ 48 → lines < 256 →
    (composeCommit sequence lines check).length = 64 ∧
      (judgeCommit h check (composeCommit sequence lines check) = true ↔ sequence = h.sequence ∧ lines = h.lines))
end

