-- ==== Sys2Proof/Laws/State.lean ====
section
/-! SUPPORT. What each update of the state leaves unchanged: one lemma for each operation that changes a part of the state, saying
which of its other parts stay. No later proof needs to unfold a record update for that. -/

namespace Sys2Proof.Machine

@[simp] theorem State.endDeviceProgram_frame (failed : Bool) (s : State) :
    (State.endDeviceProgram failed s).pins = s.pins ∧ (State.endDeviceProgram failed s).control = s.control ∧
    (State.endDeviceProgram failed s).upstream = s.upstream ∧ (State.endDeviceProgram failed s).groups = s.groups ∧
    (State.endDeviceProgram failed s).lines = s.lines ∧ (State.endDeviceProgram failed s).journal = s.journal ∧
    (State.endDeviceProgram failed s).cursor = s.cursor ∧ (State.endDeviceProgram failed s).port = s.port ∧
    (State.endDeviceProgram failed s).monitor = s.monitor ∧ (State.endDeviceProgram failed s).outcomes = s.outcomes ∧
    (State.endDeviceProgram failed s).link = s.link ∧ (State.endDeviceProgram failed s).boot = s.boot ∧
    (State.endDeviceProgram failed s).pending = s.pending := by
  unfold State.endDeviceProgram
  (repeat' split) <;> simp

@[simp] theorem State.unpowerDevice_frame (s : State) :
    (State.unpowerDevice s).pins = s.pins ∧ (State.unpowerDevice s).control = s.control ∧
    (State.unpowerDevice s).upstream = s.upstream ∧ (State.unpowerDevice s).groups = s.groups ∧
    (State.unpowerDevice s).lines = s.lines ∧ (State.unpowerDevice s).journal = s.journal ∧
    (State.unpowerDevice s).cursor = s.cursor ∧ (State.unpowerDevice s).port = s.port ∧
    (State.unpowerDevice s).monitor = s.monitor ∧ (State.unpowerDevice s).outcomes = s.outcomes ∧
    (State.unpowerDevice s).link = s.link ∧ (State.unpowerDevice s).boot = s.boot ∧
    (State.unpowerDevice s).pending = s.pending := by
  unfold State.unpowerDevice
  split <;> simp

@[simp] theorem State.tick_frame (s : State) :
    (State.tick s).pins = s.pins ∧ (State.tick s).control = s.control ∧ (State.tick s).lines = s.lines ∧
    (State.tick s).journal = s.journal ∧ (State.tick s).cursor = s.cursor ∧ (State.tick s).device = s.device ∧
    (State.tick s).outcomes = s.outcomes ∧ (State.tick s).link = s.link ∧ (State.tick s).boot = s.boot ∧
    (State.tick s).freeCount = s.freeCount ∧ (State.tick s).pending = s.pending := by
  and_intros <;> rfl

@[simp] theorem State.setMode_frame (s : State) (m : Mode) :
    (State.setMode s m).pins = s.pins ∧ (State.setMode s m).upstream = s.upstream ∧
    (State.setMode s m).groups = s.groups ∧ (State.setMode s m).lines = s.lines ∧
    (State.setMode s m).journal = s.journal ∧ (State.setMode s m).cursor = s.cursor ∧
    (State.setMode s m).port = s.port ∧ (State.setMode s m).device = s.device ∧
    (State.setMode s m).monitor = s.monitor ∧ (State.setMode s m).outcomes = s.outcomes ∧
    (State.setMode s m).link = s.link ∧ (State.setMode s m).boot = s.boot ∧
    (State.setMode s m).freeCount = s.freeCount ∧ (State.setMode s m).pending = s.pending := by
  and_intros <;> rfl

@[simp] theorem State.withCounters_frame (f : Counters → Counters) (s : State) :
    (State.withCounters f s).pins = s.pins ∧ (State.withCounters f s).control = s.control ∧
    (State.withCounters f s).upstream = s.upstream ∧ (State.withCounters f s).groups = s.groups ∧
    (State.withCounters f s).lines = s.lines ∧ (State.withCounters f s).journal = s.journal ∧
    (State.withCounters f s).cursor = s.cursor ∧ (State.withCounters f s).port = s.port ∧
    (State.withCounters f s).device = s.device ∧ (State.withCounters f s).monitor = s.monitor ∧
    (State.withCounters f s).outcomes = s.outcomes ∧ (State.withCounters f s).boot = s.boot ∧
    (State.withCounters f s).freeCount = s.freeCount ∧ (State.withCounters f s).pending = s.pending := by
  and_intros <;> rfl

@[simp] theorem State.withFlags_frame (f : EventFlags → EventFlags) (s : State) :
    (State.withFlags f s).pins = s.pins ∧ (State.withFlags f s).control = s.control ∧
    (State.withFlags f s).upstream = s.upstream ∧ (State.withFlags f s).groups = s.groups ∧
    (State.withFlags f s).lines = s.lines ∧ (State.withFlags f s).journal = s.journal ∧
    (State.withFlags f s).cursor = s.cursor ∧ (State.withFlags f s).port = s.port ∧
    (State.withFlags f s).device = s.device ∧ (State.withFlags f s).monitor = s.monitor ∧
    (State.withFlags f s).outcomes = s.outcomes ∧ (State.withFlags f s).boot = s.boot ∧
    (State.withFlags f s).freeCount = s.freeCount ∧ (State.withFlags f s).pending = s.pending := by
  and_intros <;> rfl

@[simp] theorem State.countStaged_frame (s : State) :
    (State.countStaged s).pins = s.pins ∧ (State.countStaged s).control = s.control ∧
    (State.countStaged s).upstream = s.upstream ∧ (State.countStaged s).groups = s.groups ∧
    (State.countStaged s).lines = s.lines ∧ (State.countStaged s).journal = s.journal ∧
    (State.countStaged s).cursor = s.cursor ∧ (State.countStaged s).port = s.port ∧
    (State.countStaged s).device = s.device ∧ (State.countStaged s).monitor = s.monitor ∧
    (State.countStaged s).outcomes = s.outcomes ∧ (State.countStaged s).boot = s.boot ∧
    (State.countStaged s).freeCount = s.freeCount ∧ (State.countStaged s).pending = s.pending := by
  and_intros <;> rfl

@[simp] theorem State.countRefused_frame (s : State) :
    (State.countRefused s).pins = s.pins ∧ (State.countRefused s).control = s.control ∧
    (State.countRefused s).upstream = s.upstream ∧ (State.countRefused s).groups = s.groups ∧
    (State.countRefused s).lines = s.lines ∧ (State.countRefused s).journal = s.journal ∧
    (State.countRefused s).cursor = s.cursor ∧ (State.countRefused s).port = s.port ∧
    (State.countRefused s).device = s.device ∧ (State.countRefused s).monitor = s.monitor ∧
    (State.countRefused s).outcomes = s.outcomes ∧ (State.countRefused s).boot = s.boot ∧
    (State.countRefused s).freeCount = s.freeCount ∧ (State.countRefused s).pending = s.pending := by
  and_intros <;> rfl

@[simp] theorem State.countDurable_frame (s : State) :
    (State.countDurable s).pins = s.pins ∧ (State.countDurable s).control = s.control ∧
    (State.countDurable s).upstream = s.upstream ∧ (State.countDurable s).groups = s.groups ∧
    (State.countDurable s).lines = s.lines ∧ (State.countDurable s).journal = s.journal ∧
    (State.countDurable s).cursor = s.cursor ∧ (State.countDurable s).port = s.port ∧
    (State.countDurable s).device = s.device ∧ (State.countDurable s).monitor = s.monitor ∧
    (State.countDurable s).outcomes = s.outcomes ∧ (State.countDurable s).boot = s.boot ∧
    (State.countDurable s).freeCount = s.freeCount ∧ (State.countDurable s).pending = s.pending := by
  and_intros <;> rfl

@[simp] theorem State.countLost_frame (s : State) :
    (State.countLost s).pins = s.pins ∧ (State.countLost s).control = s.control ∧
    (State.countLost s).upstream = s.upstream ∧ (State.countLost s).groups = s.groups ∧
    (State.countLost s).lines = s.lines ∧ (State.countLost s).journal = s.journal ∧
    (State.countLost s).cursor = s.cursor ∧ (State.countLost s).port = s.port ∧
    (State.countLost s).device = s.device ∧ (State.countLost s).monitor = s.monitor ∧
    (State.countLost s).outcomes = s.outcomes ∧ (State.countLost s).boot = s.boot ∧
    (State.countLost s).freeCount = s.freeCount ∧ (State.countLost s).pending = s.pending := by
  and_intros <;> rfl

@[simp] theorem State.countUnserved_frame (s : State) :
    (State.countUnserved s).pins = s.pins ∧ (State.countUnserved s).control = s.control ∧
    (State.countUnserved s).upstream = s.upstream ∧ (State.countUnserved s).groups = s.groups ∧
    (State.countUnserved s).lines = s.lines ∧ (State.countUnserved s).journal = s.journal ∧
    (State.countUnserved s).cursor = s.cursor ∧ (State.countUnserved s).port = s.port ∧
    (State.countUnserved s).device = s.device ∧ (State.countUnserved s).monitor = s.monitor ∧
    (State.countUnserved s).outcomes = s.outcomes ∧ (State.countUnserved s).boot = s.boot ∧
    (State.countUnserved s).freeCount = s.freeCount ∧ (State.countUnserved s).pending = s.pending := by
  and_intros <;> rfl

@[simp] theorem State.countRetry_frame (s : State) :
    (State.countRetry s).pins = s.pins ∧ (State.countRetry s).control = s.control ∧
    (State.countRetry s).upstream = s.upstream ∧ (State.countRetry s).groups = s.groups ∧
    (State.countRetry s).lines = s.lines ∧ (State.countRetry s).journal = s.journal ∧
    (State.countRetry s).cursor = s.cursor ∧ (State.countRetry s).port = s.port ∧
    (State.countRetry s).device = s.device ∧ (State.countRetry s).monitor = s.monitor ∧
    (State.countRetry s).outcomes = s.outcomes ∧ (State.countRetry s).boot = s.boot ∧
    (State.countRetry s).freeCount = s.freeCount ∧ (State.countRetry s).pending = s.pending := by
  and_intros <;> rfl

@[simp] theorem State.countStallExpiry_frame (s : State) :
    (State.countStallExpiry s).pins = s.pins ∧ (State.countStallExpiry s).control = s.control ∧
    (State.countStallExpiry s).upstream = s.upstream ∧ (State.countStallExpiry s).groups = s.groups ∧
    (State.countStallExpiry s).lines = s.lines ∧ (State.countStallExpiry s).journal = s.journal ∧
    (State.countStallExpiry s).cursor = s.cursor ∧ (State.countStallExpiry s).port = s.port ∧
    (State.countStallExpiry s).device = s.device ∧ (State.countStallExpiry s).monitor = s.monitor ∧
    (State.countStallExpiry s).outcomes = s.outcomes ∧ (State.countStallExpiry s).boot = s.boot ∧
    (State.countStallExpiry s).freeCount = s.freeCount ∧ (State.countStallExpiry s).pending = s.pending := by
  and_intros <;> rfl

@[simp] theorem State.countEarly_frame (s : State) :
    (State.countEarly s).pins = s.pins ∧ (State.countEarly s).control = s.control ∧
    (State.countEarly s).upstream = s.upstream ∧ (State.countEarly s).groups = s.groups ∧
    (State.countEarly s).lines = s.lines ∧ (State.countEarly s).journal = s.journal ∧
    (State.countEarly s).cursor = s.cursor ∧ (State.countEarly s).port = s.port ∧
    (State.countEarly s).device = s.device ∧ (State.countEarly s).monitor = s.monitor ∧
    (State.countEarly s).outcomes = s.outcomes ∧ (State.countEarly s).boot = s.boot ∧
    (State.countEarly s).freeCount = s.freeCount ∧ (State.countEarly s).pending = s.pending := by
  and_intros <;> rfl

@[simp] theorem State.countDropped_frame (s : State) :
    (State.countDropped s).pins = s.pins ∧ (State.countDropped s).control = s.control ∧
    (State.countDropped s).upstream = s.upstream ∧ (State.countDropped s).groups = s.groups ∧
    (State.countDropped s).lines = s.lines ∧ (State.countDropped s).journal = s.journal ∧
    (State.countDropped s).cursor = s.cursor ∧ (State.countDropped s).port = s.port ∧
    (State.countDropped s).device = s.device ∧ (State.countDropped s).monitor = s.monitor ∧
    (State.countDropped s).outcomes = s.outcomes ∧ (State.countDropped s).boot = s.boot ∧
    (State.countDropped s).freeCount = s.freeCount ∧ (State.countDropped s).pending = s.pending := by
  and_intros <;> rfl

@[simp] theorem State.mergeWrite_frame (s : State) (group : Nat) (page : Nat) (offset : Nat) (data : Byte) :
    (State.mergeWrite s group page offset data).pins = s.pins ∧
    (State.mergeWrite s group page offset data).control = s.control ∧
    (State.mergeWrite s group page offset data).upstream = s.upstream ∧
    (State.mergeWrite s group page offset data).groups = s.groups ∧
    (State.mergeWrite s group page offset data).journal = s.journal ∧
    (State.mergeWrite s group page offset data).cursor = s.cursor ∧
    (State.mergeWrite s group page offset data).port = s.port ∧
    (State.mergeWrite s group page offset data).device = s.device ∧
    (State.mergeWrite s group page offset data).monitor = s.monitor ∧
    (State.mergeWrite s group page offset data).outcomes = s.outcomes ∧
    (State.mergeWrite s group page offset data).link = s.link ∧
    (State.mergeWrite s group page offset data).boot = s.boot ∧
    (State.mergeWrite s group page offset data).freeCount = s.freeCount ∧
    (State.mergeWrite s group page offset data).pending = s.pending := by
  and_intros <;> rfl

@[simp] theorem State.allocateLine_frame (s : State) (group : Nat) (page : Nat) (offset : Nat) (data : Byte) :
    (State.allocateLine s group page offset data).pins = s.pins ∧
    (State.allocateLine s group page offset data).control = s.control ∧
    (State.allocateLine s group page offset data).upstream = s.upstream ∧
    (State.allocateLine s group page offset data).groups = s.groups ∧
    (State.allocateLine s group page offset data).journal = s.journal ∧
    (State.allocateLine s group page offset data).cursor = s.cursor ∧
    (State.allocateLine s group page offset data).port = s.port ∧
    (State.allocateLine s group page offset data).device = s.device ∧
    (State.allocateLine s group page offset data).monitor = s.monitor ∧
    (State.allocateLine s group page offset data).outcomes = s.outcomes ∧
    (State.allocateLine s group page offset data).link = s.link ∧
    (State.allocateLine s group page offset data).boot = s.boot ∧
    (State.allocateLine s group page offset data).freeCount = s.freeCount ∧
    (State.allocateLine s group page offset data).pending = s.pending := by
  and_intros <;> rfl

@[simp] theorem State.freeLines_frame (s : State) (group : Nat) :
    (State.freeLines s group).pins = s.pins ∧ (State.freeLines s group).control = s.control ∧
    (State.freeLines s group).upstream = s.upstream ∧ (State.freeLines s group).groups = s.groups ∧
    (State.freeLines s group).journal = s.journal ∧ (State.freeLines s group).cursor = s.cursor ∧
    (State.freeLines s group).port = s.port ∧ (State.freeLines s group).device = s.device ∧
    (State.freeLines s group).monitor = s.monitor ∧ (State.freeLines s group).outcomes = s.outcomes ∧
    (State.freeLines s group).link = s.link ∧ (State.freeLines s group).boot = s.boot ∧
    (State.freeLines s group).freeCount = s.freeCount ∧ (State.freeLines s group).pending = s.pending := by
  and_intros <;> rfl

@[simp] theorem State.completeLine_frame (s : State) (group : Nat) (page : Nat) (source : PageBytes) :
    (State.completeLine s group page source).pins = s.pins ∧
    (State.completeLine s group page source).control = s.control ∧
    (State.completeLine s group page source).upstream = s.upstream ∧
    (State.completeLine s group page source).groups = s.groups ∧
    (State.completeLine s group page source).journal = s.journal ∧
    (State.completeLine s group page source).cursor = s.cursor ∧
    (State.completeLine s group page source).port = s.port ∧
    (State.completeLine s group page source).device = s.device ∧
    (State.completeLine s group page source).monitor = s.monitor ∧
    (State.completeLine s group page source).outcomes = s.outcomes ∧
    (State.completeLine s group page source).link = s.link ∧ (State.completeLine s group page source).boot = s.boot ∧
    (State.completeLine s group page source).freeCount = s.freeCount ∧
    (State.completeLine s group page source).pending = s.pending := by
  and_intros <;> rfl

@[simp] theorem State.startDozeTimer_frame (s : State) :
    (State.startDozeTimer s).pins = s.pins ∧ (State.startDozeTimer s).control = s.control ∧
    (State.startDozeTimer s).upstream = s.upstream ∧ (State.startDozeTimer s).groups = s.groups ∧
    (State.startDozeTimer s).lines = s.lines ∧ (State.startDozeTimer s).journal = s.journal ∧
    (State.startDozeTimer s).cursor = s.cursor ∧ (State.startDozeTimer s).port = s.port ∧
    (State.startDozeTimer s).device = s.device ∧ (State.startDozeTimer s).outcomes = s.outcomes ∧
    (State.startDozeTimer s).link = s.link ∧ (State.startDozeTimer s).boot = s.boot ∧
    (State.startDozeTimer s).freeCount = s.freeCount ∧ (State.startDozeTimer s).pending = s.pending := by
  unfold State.startDozeTimer
  split <;> simp

@[simp] theorem State.activity_frame (s : State) :
    (State.activity s).pins = s.pins ∧ (State.activity s).control = s.control ∧ (State.activity s).upstream = s.upstream ∧
    (State.activity s).groups = s.groups ∧ (State.activity s).lines = s.lines ∧
    (State.activity s).journal = s.journal ∧ (State.activity s).cursor = s.cursor ∧ (State.activity s).port = s.port ∧
    (State.activity s).device = s.device ∧ (State.activity s).outcomes = s.outcomes ∧
    (State.activity s).link = s.link ∧ (State.activity s).boot = s.boot ∧ (State.activity s).freeCount = s.freeCount ∧
    (State.activity s).pending = s.pending := by
  unfold State.activity
  split <;> simp

@[simp] theorem State.wake_frame (s : State) :
    (State.wake s).pins = s.pins ∧ (State.wake s).upstream = s.upstream ∧ (State.wake s).groups = s.groups ∧
    (State.wake s).lines = s.lines ∧ (State.wake s).journal = s.journal ∧ (State.wake s).cursor = s.cursor ∧
    (State.wake s).device = s.device ∧ (State.wake s).outcomes = s.outcomes ∧ (State.wake s).link = s.link ∧
    (State.wake s).boot = s.boot ∧ (State.wake s).freeCount = s.freeCount ∧ (State.wake s).pending = s.pending := by
  simp [State.wake]

@[simp] theorem State.completeAccess_frame (result : AccessResult) (s : State) :
    (State.completeAccess result s).pins = s.pins ∧ (State.completeAccess result s).control = s.control ∧
    (State.completeAccess result s).groups = s.groups ∧ (State.completeAccess result s).lines = s.lines ∧
    (State.completeAccess result s).journal = s.journal ∧ (State.completeAccess result s).cursor = s.cursor ∧
    (State.completeAccess result s).port = s.port ∧ (State.completeAccess result s).device = s.device ∧
    (State.completeAccess result s).outcomes = s.outcomes ∧ (State.completeAccess result s).link = s.link ∧
    (State.completeAccess result s).boot = s.boot ∧ (State.completeAccess result s).freeCount = s.freeCount ∧
    (State.completeAccess result s).pending = s.pending := by
  simp [State.completeAccess]

@[simp] theorem State.stageWrite_frame (s : State) :
    (State.stageWrite s).pins = s.pins ∧ (State.stageWrite s).control = s.control ∧
    (State.stageWrite s).groups = s.groups ∧ (State.stageWrite s).lines = s.lines ∧
    (State.stageWrite s).journal = s.journal ∧ (State.stageWrite s).cursor = s.cursor ∧
    (State.stageWrite s).port = s.port ∧ (State.stageWrite s).device = s.device ∧
    (State.stageWrite s).outcomes = s.outcomes ∧ (State.stageWrite s).boot = s.boot ∧
    (State.stageWrite s).freeCount = s.freeCount ∧ (State.stageWrite s).pending = s.pending := by
  simp [State.stageWrite]

@[simp] theorem State.refuseWrite_frame (reason : RefusalReason) (s : State) :
    (State.refuseWrite reason s).pins = s.pins ∧ (State.refuseWrite reason s).control = s.control ∧
    (State.refuseWrite reason s).groups = s.groups ∧ (State.refuseWrite reason s).lines = s.lines ∧
    (State.refuseWrite reason s).journal = s.journal ∧ (State.refuseWrite reason s).cursor = s.cursor ∧
    (State.refuseWrite reason s).port = s.port ∧ (State.refuseWrite reason s).device = s.device ∧
    (State.refuseWrite reason s).outcomes = s.outcomes ∧ (State.refuseWrite reason s).boot = s.boot ∧
    (State.refuseWrite reason s).freeCount = s.freeCount ∧ (State.refuseWrite reason s).pending = s.pending := by
  simp [State.refuseWrite]

@[simp] theorem State.serveRead_frame (data : Byte) (s : State) :
    (State.serveRead data s).pins = s.pins ∧ (State.serveRead data s).control = s.control ∧
    (State.serveRead data s).groups = s.groups ∧ (State.serveRead data s).lines = s.lines ∧
    (State.serveRead data s).journal = s.journal ∧ (State.serveRead data s).cursor = s.cursor ∧
    (State.serveRead data s).port = s.port ∧ (State.serveRead data s).device = s.device ∧
    (State.serveRead data s).outcomes = s.outcomes ∧ (State.serveRead data s).link = s.link ∧
    (State.serveRead data s).boot = s.boot ∧ (State.serveRead data s).freeCount = s.freeCount ∧
    (State.serveRead data s).pending = s.pending := by
  simp [State.serveRead]

@[simp] theorem State.leaveUnserved_frame (s : State) :
    (State.leaveUnserved s).pins = s.pins ∧ (State.leaveUnserved s).control = s.control ∧
    (State.leaveUnserved s).groups = s.groups ∧ (State.leaveUnserved s).lines = s.lines ∧
    (State.leaveUnserved s).journal = s.journal ∧ (State.leaveUnserved s).cursor = s.cursor ∧
    (State.leaveUnserved s).port = s.port ∧ (State.leaveUnserved s).device = s.device ∧
    (State.leaveUnserved s).outcomes = s.outcomes ∧ (State.leaveUnserved s).boot = s.boot ∧
    (State.leaveUnserved s).freeCount = s.freeCount ∧ (State.leaveUnserved s).pending = s.pending := by
  simp [State.leaveUnserved]

@[simp] theorem State.holdAccess_frame (stage : AccessStage) (s : State) :
    (State.holdAccess stage s).pins = s.pins ∧ (State.holdAccess stage s).control = s.control ∧
    (State.holdAccess stage s).groups = s.groups ∧ (State.holdAccess stage s).lines = s.lines ∧
    (State.holdAccess stage s).journal = s.journal ∧ (State.holdAccess stage s).cursor = s.cursor ∧
    (State.holdAccess stage s).port = s.port ∧ (State.holdAccess stage s).device = s.device ∧
    (State.holdAccess stage s).monitor = s.monitor ∧ (State.holdAccess stage s).outcomes = s.outcomes ∧
    (State.holdAccess stage s).link = s.link ∧ (State.holdAccess stage s).boot = s.boot ∧
    (State.holdAccess stage s).freeCount = s.freeCount ∧ (State.holdAccess stage s).pending = s.pending := by
  unfold State.holdAccess
  split <;> simp

@[simp] theorem State.createEntry_frame (kind : GroupKind) (state : GroupState) (s : State) :
    (State.createEntry kind state s).pins = s.pins ∧ (State.createEntry kind state s).control = s.control ∧
    (State.createEntry kind state s).upstream = s.upstream ∧ (State.createEntry kind state s).lines = s.lines ∧
    (State.createEntry kind state s).journal = s.journal ∧ (State.createEntry kind state s).cursor = s.cursor ∧
    (State.createEntry kind state s).port = s.port ∧ (State.createEntry kind state s).device = s.device ∧
    (State.createEntry kind state s).monitor = s.monitor ∧ (State.createEntry kind state s).outcomes = s.outcomes ∧
    (State.createEntry kind state s).link = s.link ∧ (State.createEntry kind state s).boot = s.boot ∧
    (State.createEntry kind state s).freeCount = s.freeCount ∧ (State.createEntry kind state s).pending = s.pending := by
  and_intros <;> rfl

@[simp] theorem State.setGroupState_frame (group : Nat) (state : GroupState) (s : State) :
    (State.setGroupState group state s).pins = s.pins ∧ (State.setGroupState group state s).control = s.control ∧
    (State.setGroupState group state s).upstream = s.upstream ∧ (State.setGroupState group state s).lines = s.lines ∧
    (State.setGroupState group state s).journal = s.journal ∧ (State.setGroupState group state s).cursor = s.cursor ∧
    (State.setGroupState group state s).port = s.port ∧ (State.setGroupState group state s).device = s.device ∧
    (State.setGroupState group state s).monitor = s.monitor ∧
    (State.setGroupState group state s).outcomes = s.outcomes ∧ (State.setGroupState group state s).link = s.link ∧
    (State.setGroupState group state s).boot = s.boot ∧ (State.setGroupState group state s).freeCount = s.freeCount ∧
    (State.setGroupState group state s).pending = s.pending := by
  and_intros <;> rfl

@[simp] theorem State.setCurrent_frame (current : Current) (s : State) :
    (State.setCurrent current s).pins = s.pins ∧ (State.setCurrent current s).control = s.control ∧
    (State.setCurrent current s).upstream = s.upstream ∧ (State.setCurrent current s).lines = s.lines ∧
    (State.setCurrent current s).journal = s.journal ∧ (State.setCurrent current s).cursor = s.cursor ∧
    (State.setCurrent current s).port = s.port ∧ (State.setCurrent current s).device = s.device ∧
    (State.setCurrent current s).monitor = s.monitor ∧ (State.setCurrent current s).outcomes = s.outcomes ∧
    (State.setCurrent current s).link = s.link ∧ (State.setCurrent current s).boot = s.boot ∧
    (State.setCurrent current s).freeCount = s.freeCount ∧ (State.setCurrent current s).pending = s.pending := by
  and_intros <;> rfl

@[simp] theorem State.appendOutcome_frame (s : State) :
    (State.appendOutcome s).pins = s.pins ∧ (State.appendOutcome s).control = s.control ∧
    (State.appendOutcome s).upstream = s.upstream ∧ (State.appendOutcome s).groups = s.groups ∧
    (State.appendOutcome s).lines = s.lines ∧ (State.appendOutcome s).journal = s.journal ∧
    (State.appendOutcome s).cursor = s.cursor ∧ (State.appendOutcome s).port = s.port ∧
    (State.appendOutcome s).device = s.device ∧ (State.appendOutcome s).monitor = s.monitor ∧
    (State.appendOutcome s).link = s.link ∧ (State.appendOutcome s).boot = s.boot ∧
    (State.appendOutcome s).freeCount = s.freeCount ∧ (State.appendOutcome s).pending = s.pending := by
  and_intros <;> rfl

@[simp] theorem State.postOutcome_frame (owner : OutcomeOwner) (result : OutcomeResult) (s : State) :
    (State.postOutcome owner result s).pins = s.pins ∧ (State.postOutcome owner result s).control = s.control ∧
    (State.postOutcome owner result s).upstream = s.upstream ∧ (State.postOutcome owner result s).groups = s.groups ∧
    (State.postOutcome owner result s).lines = s.lines ∧ (State.postOutcome owner result s).journal = s.journal ∧
    (State.postOutcome owner result s).cursor = s.cursor ∧ (State.postOutcome owner result s).port = s.port ∧
    (State.postOutcome owner result s).device = s.device ∧ (State.postOutcome owner result s).monitor = s.monitor ∧
    (State.postOutcome owner result s).link = s.link ∧ (State.postOutcome owner result s).boot = s.boot ∧
    (State.postOutcome owner result s).freeCount = s.freeCount ∧
    (State.postOutcome owner result s).pending = s.pending := by
  and_intros <;> rfl

@[simp] theorem State.relinkOutcome_frame (owner : OutcomeOwner) (new : OutcomeOwner) (s : State) :
    (State.relinkOutcome owner new s).pins = s.pins ∧ (State.relinkOutcome owner new s).control = s.control ∧
    (State.relinkOutcome owner new s).upstream = s.upstream ∧ (State.relinkOutcome owner new s).groups = s.groups ∧
    (State.relinkOutcome owner new s).lines = s.lines ∧ (State.relinkOutcome owner new s).journal = s.journal ∧
    (State.relinkOutcome owner new s).cursor = s.cursor ∧ (State.relinkOutcome owner new s).port = s.port ∧
    (State.relinkOutcome owner new s).device = s.device ∧ (State.relinkOutcome owner new s).monitor = s.monitor ∧
    (State.relinkOutcome owner new s).link = s.link ∧ (State.relinkOutcome owner new s).boot = s.boot ∧
    (State.relinkOutcome owner new s).freeCount = s.freeCount ∧
    (State.relinkOutcome owner new s).pending = s.pending := by
  and_intros <;> rfl

@[simp] theorem State.emptyOutcomes_frame (s : State) :
    (State.emptyOutcomes s).pins = s.pins ∧ (State.emptyOutcomes s).control = s.control ∧
    (State.emptyOutcomes s).upstream = s.upstream ∧ (State.emptyOutcomes s).groups = s.groups ∧
    (State.emptyOutcomes s).lines = s.lines ∧ (State.emptyOutcomes s).journal = s.journal ∧
    (State.emptyOutcomes s).cursor = s.cursor ∧ (State.emptyOutcomes s).port = s.port ∧
    (State.emptyOutcomes s).device = s.device ∧ (State.emptyOutcomes s).monitor = s.monitor ∧
    (State.emptyOutcomes s).link = s.link ∧ (State.emptyOutcomes s).boot = s.boot ∧
    (State.emptyOutcomes s).freeCount = s.freeCount ∧ (State.emptyOutcomes s).pending = s.pending := by
  and_intros <;> rfl

@[simp] theorem State.openExplicit_frame (s : State) :
    (State.openExplicit s).pins = s.pins ∧ (State.openExplicit s).control = s.control ∧
    (State.openExplicit s).upstream = s.upstream ∧ (State.openExplicit s).lines = s.lines ∧
    (State.openExplicit s).journal = s.journal ∧ (State.openExplicit s).cursor = s.cursor ∧
    (State.openExplicit s).port = s.port ∧ (State.openExplicit s).device = s.device ∧
    (State.openExplicit s).monitor = s.monitor ∧ (State.openExplicit s).link = s.link ∧
    (State.openExplicit s).boot = s.boot ∧ (State.openExplicit s).freeCount = s.freeCount ∧
    (State.openExplicit s).pending = s.pending := by
  and_intros <;> rfl

@[simp] theorem State.sealAmbient_frame (s : State) :
    (State.sealAmbient s).pins = s.pins ∧ (State.sealAmbient s).control = s.control ∧
    (State.sealAmbient s).upstream = s.upstream ∧ (State.sealAmbient s).lines = s.lines ∧
    (State.sealAmbient s).journal = s.journal ∧ (State.sealAmbient s).cursor = s.cursor ∧
    (State.sealAmbient s).port = s.port ∧ (State.sealAmbient s).device = s.device ∧
    (State.sealAmbient s).monitor = s.monitor ∧ (State.sealAmbient s).outcomes = s.outcomes ∧
    (State.sealAmbient s).link = s.link ∧ (State.sealAmbient s).boot = s.boot ∧
    (State.sealAmbient s).freeCount = s.freeCount ∧ (State.sealAmbient s).pending = s.pending := by
  unfold State.sealAmbient
  split <;> simp

@[simp] theorem State.requestSeal_frame (s : State) :
    (State.requestSeal s).pins = s.pins ∧ (State.requestSeal s).control = s.control ∧
    (State.requestSeal s).upstream = s.upstream ∧ (State.requestSeal s).lines = s.lines ∧
    (State.requestSeal s).journal = s.journal ∧ (State.requestSeal s).cursor = s.cursor ∧
    (State.requestSeal s).port = s.port ∧ (State.requestSeal s).device = s.device ∧
    (State.requestSeal s).monitor = s.monitor ∧ (State.requestSeal s).outcomes = s.outcomes ∧
    (State.requestSeal s).link = s.link ∧ (State.requestSeal s).boot = s.boot ∧
    (State.requestSeal s).freeCount = s.freeCount ∧ (State.requestSeal s).pending = s.pending := by
  unfold State.requestSeal
  (repeat' split) <;> simp

@[simp] theorem State.freeEntry_frame (group : Nat) (s : State) :
    (State.freeEntry group s).pins = s.pins ∧ (State.freeEntry group s).control = s.control ∧
    (State.freeEntry group s).upstream = s.upstream ∧ (State.freeEntry group s).lines = s.lines ∧
    (State.freeEntry group s).journal = s.journal ∧ (State.freeEntry group s).cursor = s.cursor ∧
    (State.freeEntry group s).port = s.port ∧ (State.freeEntry group s).device = s.device ∧
    (State.freeEntry group s).monitor = s.monitor ∧ (State.freeEntry group s).link = s.link ∧
    (State.freeEntry group s).boot = s.boot ∧ (State.freeEntry group s).freeCount = s.freeCount ∧
    (State.freeEntry group s).pending = s.pending := by
  unfold State.freeEntry
  dsimp only
  (repeat' split) <;> simp

@[simp] theorem State.loseExplicit_frame (s : State) :
    (State.loseExplicit s).pins = s.pins ∧ (State.loseExplicit s).control = s.control ∧
    (State.loseExplicit s).upstream = s.upstream ∧ (State.loseExplicit s).journal = s.journal ∧
    (State.loseExplicit s).cursor = s.cursor ∧ (State.loseExplicit s).port = s.port ∧
    (State.loseExplicit s).device = s.device ∧ (State.loseExplicit s).monitor = s.monitor ∧
    (State.loseExplicit s).boot = s.boot ∧ (State.loseExplicit s).freeCount = s.freeCount ∧
    (State.loseExplicit s).pending = s.pending := by
  unfold State.loseExplicit
  split <;> simp

@[simp] theorem State.loseAmbient_frame (s : State) :
    (State.loseAmbient s).pins = s.pins ∧ (State.loseAmbient s).control = s.control ∧
    (State.loseAmbient s).upstream = s.upstream ∧ (State.loseAmbient s).journal = s.journal ∧
    (State.loseAmbient s).cursor = s.cursor ∧ (State.loseAmbient s).port = s.port ∧
    (State.loseAmbient s).device = s.device ∧ (State.loseAmbient s).monitor = s.monitor ∧
    (State.loseAmbient s).boot = s.boot ∧ (State.loseAmbient s).freeCount = s.freeCount ∧
    (State.loseAmbient s).pending = s.pending := by
  unfold State.loseAmbient
  split <;> simp

@[simp] theorem State.refuseAndLose_frame (reason : RefusalReason) (s : State) :
    (State.refuseAndLose reason s).pins = s.pins ∧ (State.refuseAndLose reason s).control = s.control ∧
    (State.refuseAndLose reason s).journal = s.journal ∧ (State.refuseAndLose reason s).cursor = s.cursor ∧
    (State.refuseAndLose reason s).port = s.port ∧ (State.refuseAndLose reason s).device = s.device ∧
    (State.refuseAndLose reason s).boot = s.boot ∧ (State.refuseAndLose reason s).freeCount = s.freeCount ∧
    (State.refuseAndLose reason s).pending = s.pending := by
  unfold State.refuseAndLose
  split <;> simp

@[simp] theorem State.refuseGroup_frame (s : State) :
    (State.refuseGroup s).pins = s.pins ∧ (State.refuseGroup s).control = s.control ∧
    (State.refuseGroup s).upstream = s.upstream ∧ (State.refuseGroup s).lines = s.lines ∧
    (State.refuseGroup s).journal = s.journal ∧ (State.refuseGroup s).cursor = s.cursor ∧
    (State.refuseGroup s).port = s.port ∧ (State.refuseGroup s).device = s.device ∧
    (State.refuseGroup s).monitor = s.monitor ∧ (State.refuseGroup s).link = s.link ∧
    (State.refuseGroup s).boot = s.boot ∧ (State.refuseGroup s).freeCount = s.freeCount ∧
    (State.refuseGroup s).pending = s.pending := by
  and_intros <;> rfl

@[simp] theorem State.dropAssertion_frame (s : State) :
    (State.dropAssertion s).pins = s.pins ∧ (State.dropAssertion s).control = s.control ∧
    (State.dropAssertion s).upstream = s.upstream ∧ (State.dropAssertion s).lines = s.lines ∧
    (State.dropAssertion s).journal = s.journal ∧ (State.dropAssertion s).cursor = s.cursor ∧
    (State.dropAssertion s).port = s.port ∧ (State.dropAssertion s).device = s.device ∧
    (State.dropAssertion s).monitor = s.monitor ∧ (State.dropAssertion s).outcomes = s.outcomes ∧
    (State.dropAssertion s).boot = s.boot ∧ (State.dropAssertion s).freeCount = s.freeCount ∧
    (State.dropAssertion s).pending = s.pending := by
  and_intros <;> rfl

@[simp] theorem State.admitAssertion_frame (s : State) :
    (State.admitAssertion s).pins = s.pins ∧ (State.admitAssertion s).control = s.control ∧
    (State.admitAssertion s).upstream = s.upstream ∧ (State.admitAssertion s).lines = s.lines ∧
    (State.admitAssertion s).journal = s.journal ∧ (State.admitAssertion s).cursor = s.cursor ∧
    (State.admitAssertion s).port = s.port ∧ (State.admitAssertion s).device = s.device ∧
    (State.admitAssertion s).monitor = s.monitor ∧ (State.admitAssertion s).boot = s.boot ∧
    (State.admitAssertion s).freeCount = s.freeCount ∧ (State.admitAssertion s).pending = s.pending := by
  unfold State.admitAssertion
  dsimp only
  (repeat' split) <;> simp

@[simp] theorem State.takeAssertion_frame (s : State) :
    (State.takeAssertion s).pins = s.pins ∧ (State.takeAssertion s).upstream = s.upstream ∧
    (State.takeAssertion s).lines = s.lines ∧ (State.takeAssertion s).journal = s.journal ∧
    (State.takeAssertion s).cursor = s.cursor ∧ (State.takeAssertion s).device = s.device ∧
    (State.takeAssertion s).boot = s.boot ∧ (State.takeAssertion s).freeCount = s.freeCount ∧
    (State.takeAssertion s).pending = s.pending := by
  unfold State.takeAssertion
  (repeat' split) <;> simp

@[simp] theorem State.endBracket_frame (s : State) :
    (State.endBracket s).pins = s.pins ∧ (State.endBracket s).control = s.control ∧
    (State.endBracket s).upstream = s.upstream ∧ (State.endBracket s).lines = s.lines ∧
    (State.endBracket s).journal = s.journal ∧ (State.endBracket s).cursor = s.cursor ∧
    (State.endBracket s).port = s.port ∧ (State.endBracket s).device = s.device ∧
    (State.endBracket s).monitor = s.monitor ∧ (State.endBracket s).link = s.link ∧
    (State.endBracket s).boot = s.boot ∧ (State.endBracket s).freeCount = s.freeCount ∧
    (State.endBracket s).pending = s.pending := by
  and_intros <;> rfl

@[simp] theorem State.takeRelease_frame (dsc : Bool) (s : State) :
    (State.takeRelease dsc s).pins = s.pins ∧ (State.takeRelease dsc s).control = s.control ∧
    (State.takeRelease dsc s).upstream = s.upstream ∧ (State.takeRelease dsc s).journal = s.journal ∧
    (State.takeRelease dsc s).cursor = s.cursor ∧ (State.takeRelease dsc s).port = s.port ∧
    (State.takeRelease dsc s).device = s.device ∧ (State.takeRelease dsc s).monitor = s.monitor ∧
    (State.takeRelease dsc s).boot = s.boot ∧ (State.takeRelease dsc s).freeCount = s.freeCount ∧
    (State.takeRelease dsc s).pending = s.pending := by
  unfold State.takeRelease
  (repeat' split) <;> simp

@[simp] theorem State.takeEdge_frame (e : Edge) (s : State) :
    (State.takeEdge e s).pins = s.pins ∧ (State.takeEdge e s).upstream = s.upstream ∧
    (State.takeEdge e s).journal = s.journal ∧ (State.takeEdge e s).cursor = s.cursor ∧
    (State.takeEdge e s).device = s.device ∧ (State.takeEdge e s).boot = s.boot ∧
    (State.takeEdge e s).freeCount = s.freeCount ∧ (State.takeEdge e s).pending = s.pending := by
  unfold State.takeEdge
  split <;> simp

@[simp] theorem State.noteEdge_frame (e : Edge) (s : State) :
    (State.noteEdge e s).pins = s.pins ∧ (State.noteEdge e s).control = s.control ∧
    (State.noteEdge e s).upstream = s.upstream ∧ (State.noteEdge e s).lines = s.lines ∧
    (State.noteEdge e s).journal = s.journal ∧ (State.noteEdge e s).cursor = s.cursor ∧
    (State.noteEdge e s).port = s.port ∧ (State.noteEdge e s).device = s.device ∧
    (State.noteEdge e s).outcomes = s.outcomes ∧ (State.noteEdge e s).link = s.link ∧
    (State.noteEdge e s).boot = s.boot ∧ (State.noteEdge e s).freeCount = s.freeCount ∧
    (State.noteEdge e s).pending = s.pending := by
  simp [State.noteEdge]

@[simp] theorem State.edge_frame (e : Edge) (s : State) :
    (State.edge e s).pins = s.pins ∧ (State.edge e s).upstream = s.upstream ∧ (State.edge e s).journal = s.journal ∧
    (State.edge e s).cursor = s.cursor ∧ (State.edge e s).device = s.device ∧ (State.edge e s).boot = s.boot ∧
    (State.edge e s).freeCount = s.freeCount ∧ (State.edge e s).pending = s.pending := by
  unfold State.edge
  split <;> simp

theorem State.edgeStep_frame (s : State) (t : State) (h : State.edgeStep s = some t) :
    t.pins = s.pins ∧ t.upstream = s.upstream ∧ t.journal = s.journal ∧ t.cursor = s.cursor ∧ t.device = s.device ∧
    t.boot = s.boot ∧ t.freeCount = s.freeCount ∧ t.pending = s.pending := by
  unfold State.edgeStep at h; (try dsimp only at h); (repeat' split at h) <;> cases h <;> and_intros <;>
    first | rfl | simp | (dsimp only; (repeat' split) <;> simp)

@[simp] theorem State.placeNewLine_frame (group : Nat) (page : Nat) (offset : Nat) (data : Byte) (s : State) :
    (State.placeNewLine group page offset data s).pins = s.pins ∧
    (State.placeNewLine group page offset data s).control = s.control ∧
    (State.placeNewLine group page offset data s).journal = s.journal ∧
    (State.placeNewLine group page offset data s).cursor = s.cursor ∧
    (State.placeNewLine group page offset data s).port = s.port ∧
    (State.placeNewLine group page offset data s).device = s.device ∧
    (State.placeNewLine group page offset data s).outcomes = s.outcomes ∧
    (State.placeNewLine group page offset data s).boot = s.boot ∧
    (State.placeNewLine group page offset data s).freeCount = s.freeCount ∧
    (State.placeNewLine group page offset data s).pending = s.pending := by
  unfold State.placeNewLine
  dsimp only
  (repeat' split) <;> simp

@[simp] theorem State.storeWrite_frame (group : Nat) (page : Nat) (offset : Nat) (data : Byte) (s : State) :
    (State.storeWrite group page offset data s).pins = s.pins ∧
    (State.storeWrite group page offset data s).control = s.control ∧
    (State.storeWrite group page offset data s).journal = s.journal ∧
    (State.storeWrite group page offset data s).cursor = s.cursor ∧
    (State.storeWrite group page offset data s).port = s.port ∧
    (State.storeWrite group page offset data s).device = s.device ∧
    (State.storeWrite group page offset data s).boot = s.boot ∧
    (State.storeWrite group page offset data s).freeCount = s.freeCount ∧
    (State.storeWrite group page offset data s).pending = s.pending := by
  unfold State.storeWrite
  (repeat' split) <;> simp

@[simp] theorem State.joinAmbient_frame (s : State) :
    (State.joinAmbient s).pins = s.pins ∧ (State.joinAmbient s).control = s.control ∧
    (State.joinAmbient s).upstream = s.upstream ∧ (State.joinAmbient s).lines = s.lines ∧
    (State.joinAmbient s).journal = s.journal ∧ (State.joinAmbient s).cursor = s.cursor ∧
    (State.joinAmbient s).port = s.port ∧ (State.joinAmbient s).device = s.device ∧
    (State.joinAmbient s).monitor = s.monitor ∧ (State.joinAmbient s).outcomes = s.outcomes ∧
    (State.joinAmbient s).link = s.link ∧ (State.joinAmbient s).boot = s.boot ∧
    (State.joinAmbient s).freeCount = s.freeCount ∧ (State.joinAmbient s).pending = s.pending := by
  and_intros <;> rfl

@[simp] theorem State.createAmbient_frame (s : State) :
    (State.createAmbient s).pins = s.pins ∧ (State.createAmbient s).control = s.control ∧
    (State.createAmbient s).upstream = s.upstream ∧ (State.createAmbient s).lines = s.lines ∧
    (State.createAmbient s).journal = s.journal ∧ (State.createAmbient s).cursor = s.cursor ∧
    (State.createAmbient s).port = s.port ∧ (State.createAmbient s).device = s.device ∧
    (State.createAmbient s).monitor = s.monitor ∧ (State.createAmbient s).outcomes = s.outcomes ∧
    (State.createAmbient s).link = s.link ∧ (State.createAmbient s).boot = s.boot ∧
    (State.createAmbient s).freeCount = s.freeCount ∧ (State.createAmbient s).pending = s.pending := by
  and_intros <;> rfl

@[simp] theorem State.looseWrite_frame (page : Nat) (offset : Nat) (data : Byte) (s : State) :
    (State.looseWrite page offset data s).pins = s.pins ∧ (State.looseWrite page offset data s).control = s.control ∧
    (State.looseWrite page offset data s).journal = s.journal ∧
    (State.looseWrite page offset data s).cursor = s.cursor ∧ (State.looseWrite page offset data s).port = s.port ∧
    (State.looseWrite page offset data s).device = s.device ∧ (State.looseWrite page offset data s).boot = s.boot ∧
    (State.looseWrite page offset data s).freeCount = s.freeCount ∧
    (State.looseWrite page offset data s).pending = s.pending := by
  unfold State.looseWrite
  (repeat' split) <;> simp

@[simp] theorem State.explicitWrite_frame (page : Nat) (offset : Nat) (data : Byte) (s : State) :
    (State.explicitWrite page offset data s).pins = s.pins ∧
    (State.explicitWrite page offset data s).control = s.control ∧
    (State.explicitWrite page offset data s).journal = s.journal ∧
    (State.explicitWrite page offset data s).cursor = s.cursor ∧
    (State.explicitWrite page offset data s).port = s.port ∧
    (State.explicitWrite page offset data s).device = s.device ∧
    (State.explicitWrite page offset data s).boot = s.boot ∧
    (State.explicitWrite page offset data s).freeCount = s.freeCount ∧
    (State.explicitWrite page offset data s).pending = s.pending := by
  unfold State.explicitWrite
  split <;> simp

theorem State.claimStep_frame (s : State) (t : State) (h : State.claimStep s = some t) :
    t.pins = s.pins ∧ t.control = s.control ∧ t.journal = s.journal ∧ t.cursor = s.cursor ∧ t.port = s.port ∧
    t.device = s.device ∧ t.boot = s.boot ∧ t.freeCount = s.freeCount ∧ t.pending = s.pending := by
  unfold State.claimStep at h
  (repeat' split at h) <;> cases h <;> simp

theorem State.lineStep_frame (s : State) (t : State) (h : State.lineStep s = some t) :
    t.pins = s.pins ∧ t.control = s.control ∧ t.journal = s.journal ∧ t.cursor = s.cursor ∧ t.port = s.port ∧
    t.device = s.device ∧ t.outcomes = s.outcomes ∧ t.boot = s.boot ∧ t.freeCount = s.freeCount ∧
    t.pending = s.pending := by
  unfold State.lineStep at h
  (repeat' split at h) <;> cases h <;> simp

end Sys2Proof.Machine
end

