-- ==== Sys2Proof/Laws/Frames.lean ====
section
/-! SUPPORT. What the changes of mode, the engines, the array controller, and the effects of the commands leave unchanged. -/

namespace Sys2Proof.Machine

@[simp] theorem State.powerOff_frame (s : State) :
    (State.powerOff s).pins = s.pins ∧ (State.powerOff s).control = s.control ∧ (State.powerOff s).groups = s.groups ∧
    (State.powerOff s).lines = s.lines ∧ (State.powerOff s).journal = s.journal ∧
    (State.powerOff s).cursor = s.cursor ∧ (State.powerOff s).monitor = s.monitor ∧
    (State.powerOff s).outcomes = s.outcomes ∧ (State.powerOff s).link = s.link ∧ (State.powerOff s).boot = s.boot ∧
    (State.powerOff s).pending = s.pending := by
  simp [State.powerOff]

@[simp] theorem State.endDrain_frame (s : State) :
    (State.endDrain s).pins = s.pins ∧ (State.endDrain s).control = s.control ∧ (State.endDrain s).upstream = s.upstream ∧
    (State.endDrain s).groups = s.groups ∧ (State.endDrain s).lines = s.lines ∧
    (State.endDrain s).journal = s.journal ∧ (State.endDrain s).cursor = s.cursor ∧ (State.endDrain s).port = s.port ∧
    (State.endDrain s).device = s.device ∧ (State.endDrain s).monitor = s.monitor ∧
    (State.endDrain s).outcomes = s.outcomes ∧ (State.endDrain s).boot = s.boot ∧
    (State.endDrain s).freeCount = s.freeCount ∧ (State.endDrain s).pending = s.pending := by
  and_intros <;> rfl

@[simp] theorem State.stopDozeTimer_frame (s : State) :
    (State.stopDozeTimer s).pins = s.pins ∧ (State.stopDozeTimer s).control = s.control ∧
    (State.stopDozeTimer s).upstream = s.upstream ∧ (State.stopDozeTimer s).groups = s.groups ∧
    (State.stopDozeTimer s).lines = s.lines ∧ (State.stopDozeTimer s).journal = s.journal ∧
    (State.stopDozeTimer s).cursor = s.cursor ∧ (State.stopDozeTimer s).port = s.port ∧
    (State.stopDozeTimer s).device = s.device ∧ (State.stopDozeTimer s).outcomes = s.outcomes ∧
    (State.stopDozeTimer s).link = s.link ∧ (State.stopDozeTimer s).boot = s.boot ∧
    (State.stopDozeTimer s).freeCount = s.freeCount ∧ (State.stopDozeTimer s).pending = s.pending := by
  and_intros <;> rfl

@[simp] theorem State.restartDebounce_frame (s : State) :
    (State.restartDebounce s).pins = s.pins ∧ (State.restartDebounce s).control = s.control ∧
    (State.restartDebounce s).upstream = s.upstream ∧ (State.restartDebounce s).groups = s.groups ∧
    (State.restartDebounce s).lines = s.lines ∧ (State.restartDebounce s).journal = s.journal ∧
    (State.restartDebounce s).cursor = s.cursor ∧ (State.restartDebounce s).port = s.port ∧
    (State.restartDebounce s).device = s.device ∧ (State.restartDebounce s).outcomes = s.outcomes ∧
    (State.restartDebounce s).link = s.link ∧ (State.restartDebounce s).boot = s.boot ∧
    (State.restartDebounce s).freeCount = s.freeCount ∧ (State.restartDebounce s).pending = s.pending := by
  and_intros <;> rfl

@[simp] theorem State.enterDown_frame (s : State) :
    (State.enterDown s).pins = s.pins ∧ (State.enterDown s).lines = s.lines ∧ (State.enterDown s).pending = s.pending := by
  simp [State.enterDown]

@[simp] theorem State.volatileReset_frame (s : State) :
    (State.volatileReset s).pins = s.pins ∧ (State.volatileReset s).pending = s.pending := by
  simp [State.volatileReset]

@[simp] theorem State.enterReset_frame (s : State) :
    (State.enterReset s).pending = s.pending := by
  simp [State.enterReset]

@[simp] theorem State.loseSupply_frame (s : State) :
    (State.loseSupply s).pending = s.pending := by
  simp [State.loseSupply]

@[simp] theorem State.startValues_frame (cause : Cause) (storeResult : StoreResult) (s : State) :
    (State.startValues cause storeResult s).pins = s.pins ∧ (State.startValues cause storeResult s).device = s.device ∧
    (State.startValues cause storeResult s).freeCount = s.freeCount ∧
    (State.startValues cause storeResult s).pending = s.pending := by
  and_intros <;> rfl

@[simp] theorem State.completeEarly_frame (held : Option Access) (s : State) :
    (State.completeEarly held s).pins = s.pins ∧ (State.completeEarly held s).control = s.control ∧
    (State.completeEarly held s).groups = s.groups ∧ (State.completeEarly held s).lines = s.lines ∧
    (State.completeEarly held s).journal = s.journal ∧ (State.completeEarly held s).cursor = s.cursor ∧
    (State.completeEarly held s).port = s.port ∧ (State.completeEarly held s).device = s.device ∧
    (State.completeEarly held s).outcomes = s.outcomes ∧ (State.completeEarly held s).boot = s.boot ∧
    (State.completeEarly held s).freeCount = s.freeCount ∧ (State.completeEarly held s).pending = s.pending := by
  unfold State.completeEarly
  (repeat' split) <;> simp

@[simp] theorem State.beginWake_frame (s : State) :
    (State.beginWake s).pins = s.pins ∧ (State.beginWake s).control = s.control ∧
    (State.beginWake s).upstream = s.upstream ∧ (State.beginWake s).groups = s.groups ∧
    (State.beginWake s).lines = s.lines ∧ (State.beginWake s).journal = s.journal ∧
    (State.beginWake s).cursor = s.cursor ∧ (State.beginWake s).device = s.device ∧
    (State.beginWake s).monitor = s.monitor ∧ (State.beginWake s).outcomes = s.outcomes ∧
    (State.beginWake s).link = s.link ∧ (State.beginWake s).freeCount = s.freeCount ∧
    (State.beginWake s).pending = s.pending := by
  and_intros <;> rfl

@[simp] theorem State.beginStartUp_frame (cause : Cause) (storeResult : StoreResult) (s : State) :
    (State.beginStartUp cause storeResult s).pins = s.pins ∧ (State.beginStartUp cause storeResult s).device = s.device ∧
    (State.beginStartUp cause storeResult s).freeCount = s.freeCount ∧
    (State.beginStartUp cause storeResult s).pending = s.pending := by
  unfold State.beginStartUp
  dsimp only
  (repeat' split) <;> simp

@[simp] theorem State.enterDozing_frame (s : State) :
    (State.enterDozing s).pins = s.pins ∧ (State.enterDozing s).groups = s.groups ∧
    (State.enterDozing s).lines = s.lines ∧ (State.enterDozing s).journal = s.journal ∧
    (State.enterDozing s).cursor = s.cursor ∧ (State.enterDozing s).outcomes = s.outcomes ∧
    (State.enterDozing s).link = s.link ∧ (State.enterDozing s).boot = s.boot ∧
    (State.enterDozing s).pending = s.pending := by
  simp [State.enterDozing]

@[simp] theorem State.enterDraining_frame (drain : Drain) (s : State) :
    (State.enterDraining drain s).pins = s.pins ∧ (State.enterDraining drain s).upstream = s.upstream ∧
    (State.enterDraining drain s).lines = s.lines ∧ (State.enterDraining drain s).journal = s.journal ∧
    (State.enterDraining drain s).cursor = s.cursor ∧ (State.enterDraining drain s).port = s.port ∧
    (State.enterDraining drain s).device = s.device ∧ (State.enterDraining drain s).outcomes = s.outcomes ∧
    (State.enterDraining drain s).boot = s.boot ∧ (State.enterDraining drain s).freeCount = s.freeCount ∧
    (State.enterDraining drain s).pending = s.pending := by
  simp [State.enterDraining]

@[simp] theorem State.recordFault_frame (fault : FaultRecord) (owner : RetryOwner) (s : State) :
    (State.recordFault fault owner s).pins = s.pins ∧ (State.recordFault fault owner s).upstream = s.upstream ∧
    (State.recordFault fault owner s).groups = s.groups ∧ (State.recordFault fault owner s).lines = s.lines ∧
    (State.recordFault fault owner s).journal = s.journal ∧ (State.recordFault fault owner s).cursor = s.cursor ∧
    (State.recordFault fault owner s).port = s.port ∧ (State.recordFault fault owner s).device = s.device ∧
    (State.recordFault fault owner s).monitor = s.monitor ∧ (State.recordFault fault owner s).outcomes = s.outcomes ∧
    (State.recordFault fault owner s).link = s.link ∧ (State.recordFault fault owner s).boot = s.boot ∧
    (State.recordFault fault owner s).freeCount = s.freeCount ∧
    (State.recordFault fault owner s).pending = s.pending := by
  and_intros <;> rfl

@[simp] theorem State.refuseHeldWrite_frame (s : State) :
    (State.refuseHeldWrite s).pins = s.pins ∧ (State.refuseHeldWrite s).control = s.control ∧
    (State.refuseHeldWrite s).journal = s.journal ∧ (State.refuseHeldWrite s).cursor = s.cursor ∧
    (State.refuseHeldWrite s).port = s.port ∧ (State.refuseHeldWrite s).device = s.device ∧
    (State.refuseHeldWrite s).boot = s.boot ∧ (State.refuseHeldWrite s).freeCount = s.freeCount ∧
    (State.refuseHeldWrite s).pending = s.pending := by
  unfold State.refuseHeldWrite
  (repeat' split) <;> simp

@[simp] theorem State.enterHalted_frame (fault : FaultRecord) (owner : RetryOwner) (s : State) :
    (State.enterHalted fault owner s).pins = s.pins ∧ (State.enterHalted fault owner s).journal = s.journal ∧
    (State.enterHalted fault owner s).cursor = s.cursor ∧ (State.enterHalted fault owner s).port = s.port ∧
    (State.enterHalted fault owner s).device = s.device ∧ (State.enterHalted fault owner s).boot = s.boot ∧
    (State.enterHalted fault owner s).freeCount = s.freeCount ∧
    (State.enterHalted fault owner s).pending = s.pending := by
  simp [State.enterHalted]

@[simp] theorem State.haltStartUp_frame (fault : FaultRecord) (s : State) :
    (State.haltStartUp fault s).pins = s.pins ∧ (State.haltStartUp fault s).upstream = s.upstream ∧
    (State.haltStartUp fault s).groups = s.groups ∧ (State.haltStartUp fault s).lines = s.lines ∧
    (State.haltStartUp fault s).journal = s.journal ∧ (State.haltStartUp fault s).cursor = s.cursor ∧
    (State.haltStartUp fault s).port = s.port ∧ (State.haltStartUp fault s).device = s.device ∧
    (State.haltStartUp fault s).monitor = s.monitor ∧ (State.haltStartUp fault s).outcomes = s.outcomes ∧
    (State.haltStartUp fault s).link = s.link ∧ (State.haltStartUp fault s).boot = s.boot ∧
    (State.haltStartUp fault s).freeCount = s.freeCount ∧ (State.haltStartUp fault s).pending = s.pending := by
  and_intros <;> rfl

@[simp] theorem State.startBudget_frame (s : State) :
    (State.startBudget s).pins = s.pins ∧ (State.startBudget s).control = s.control ∧
    (State.startBudget s).upstream = s.upstream ∧ (State.startBudget s).groups = s.groups ∧
    (State.startBudget s).lines = s.lines ∧ (State.startBudget s).journal = s.journal ∧
    (State.startBudget s).cursor = s.cursor ∧ (State.startBudget s).port = s.port ∧
    (State.startBudget s).device = s.device ∧ (State.startBudget s).outcomes = s.outcomes ∧
    (State.startBudget s).link = s.link ∧ (State.startBudget s).boot = s.boot ∧
    (State.startBudget s).freeCount = s.freeCount ∧ (State.startBudget s).pending = s.pending := by
  and_intros <;> rfl

@[simp] theorem State.withdrawHeldRead_frame (s : State) :
    (State.withdrawHeldRead s).pins = s.pins ∧ (State.withdrawHeldRead s).control = s.control ∧
    (State.withdrawHeldRead s).groups = s.groups ∧ (State.withdrawHeldRead s).lines = s.lines ∧
    (State.withdrawHeldRead s).journal = s.journal ∧ (State.withdrawHeldRead s).cursor = s.cursor ∧
    (State.withdrawHeldRead s).port = s.port ∧ (State.withdrawHeldRead s).device = s.device ∧
    (State.withdrawHeldRead s).outcomes = s.outcomes ∧ (State.withdrawHeldRead s).boot = s.boot ∧
    (State.withdrawHeldRead s).freeCount = s.freeCount ∧ (State.withdrawHeldRead s).pending = s.pending := by
  unfold State.withdrawHeldRead
  (repeat' split) <;> simp

@[simp] theorem State.withdrawSuspended_frame (s : State) :
    (State.withdrawSuspended s).pins = s.pins ∧ (State.withdrawSuspended s).control = s.control ∧
    (State.withdrawSuspended s).upstream = s.upstream ∧ (State.withdrawSuspended s).groups = s.groups ∧
    (State.withdrawSuspended s).lines = s.lines ∧ (State.withdrawSuspended s).journal = s.journal ∧
    (State.withdrawSuspended s).cursor = s.cursor ∧ (State.withdrawSuspended s).device = s.device ∧
    (State.withdrawSuspended s).monitor = s.monitor ∧ (State.withdrawSuspended s).outcomes = s.outcomes ∧
    (State.withdrawSuspended s).link = s.link ∧ (State.withdrawSuspended s).boot = s.boot ∧
    (State.withdrawSuspended s).freeCount = s.freeCount ∧ (State.withdrawSuspended s).pending = s.pending := by
  and_intros <;> rfl

@[simp] theorem State.enterHoldup_frame (s : State) :
    (State.enterHoldup s).pins = s.pins ∧ (State.enterHoldup s).cursor = s.cursor ∧
    (State.enterHoldup s).device = s.device ∧ (State.enterHoldup s).boot = s.boot ∧
    (State.enterHoldup s).freeCount = s.freeCount ∧ (State.enterHoldup s).pending = s.pending := by
  simp [State.enterHoldup]

@[simp] theorem State.becomeDurable_frame (group : Nat) (s : State) :
    (State.becomeDurable group s).pins = s.pins ∧ (State.becomeDurable group s).control = s.control ∧
    (State.becomeDurable group s).upstream = s.upstream ∧ (State.becomeDurable group s).lines = s.lines ∧
    (State.becomeDurable group s).cursor = s.cursor ∧ (State.becomeDurable group s).port = s.port ∧
    (State.becomeDurable group s).device = s.device ∧ (State.becomeDurable group s).monitor = s.monitor ∧
    (State.becomeDurable group s).boot = s.boot ∧ (State.becomeDurable group s).freeCount = s.freeCount ∧
    (State.becomeDurable group s).pending = s.pending := by
  and_intros <;> rfl

@[simp] theorem State.allocateRecord_frame (g : Group) (s : State) :
    (State.allocateRecord g s).pins = s.pins ∧ (State.allocateRecord g s).control = s.control ∧
    (State.allocateRecord g s).upstream = s.upstream ∧ (State.allocateRecord g s).lines = s.lines ∧
    (State.allocateRecord g s).cursor = s.cursor ∧ (State.allocateRecord g s).port = s.port ∧
    (State.allocateRecord g s).device = s.device ∧ (State.allocateRecord g s).monitor = s.monitor ∧
    (State.allocateRecord g s).outcomes = s.outcomes ∧ (State.allocateRecord g s).link = s.link ∧
    (State.allocateRecord g s).boot = s.boot ∧ (State.allocateRecord g s).freeCount = s.freeCount ∧
    (State.allocateRecord g s).pending = s.pending := by
  and_intros <;> rfl

@[simp] theorem State.declineGroup_frame (s : State) :
    (State.declineGroup s).pins = s.pins ∧ (State.declineGroup s).control = s.control ∧
    (State.declineGroup s).upstream = s.upstream ∧ (State.declineGroup s).groups = s.groups ∧
    (State.declineGroup s).lines = s.lines ∧ (State.declineGroup s).cursor = s.cursor ∧
    (State.declineGroup s).port = s.port ∧ (State.declineGroup s).device = s.device ∧
    (State.declineGroup s).monitor = s.monitor ∧ (State.declineGroup s).outcomes = s.outcomes ∧
    (State.declineGroup s).link = s.link ∧ (State.declineGroup s).boot = s.boot ∧
    (State.declineGroup s).freeCount = s.freeCount ∧ (State.declineGroup s).pending = s.pending := by
  and_intros <;> rfl

theorem State.turnStep_frame (s : State) (t : State) (h : State.turnStep s = some t) :
    t.pins = s.pins ∧ t.control = s.control ∧ t.upstream = s.upstream ∧ t.lines = s.lines ∧ t.cursor = s.cursor ∧
    t.port = s.port ∧ t.device = s.device ∧ t.monitor = s.monitor ∧ t.boot = s.boot ∧ t.freeCount = s.freeCount ∧
    t.pending = s.pending := by
  unfold State.turnStep at h; (try dsimp only at h); (repeat' split at h) <;> cases h <;> and_intros <;>
    first | rfl | simp | (dsimp only; (repeat' split) <;> simp)

@[simp] theorem State.moveRecord_frame (position : Position) (s : State) :
    (State.moveRecord position s).pins = s.pins ∧ (State.moveRecord position s).control = s.control ∧
    (State.moveRecord position s).upstream = s.upstream ∧ (State.moveRecord position s).groups = s.groups ∧
    (State.moveRecord position s).lines = s.lines ∧ (State.moveRecord position s).cursor = s.cursor ∧
    (State.moveRecord position s).port = s.port ∧ (State.moveRecord position s).device = s.device ∧
    (State.moveRecord position s).monitor = s.monitor ∧ (State.moveRecord position s).outcomes = s.outcomes ∧
    (State.moveRecord position s).link = s.link ∧ (State.moveRecord position s).boot = s.boot ∧
    (State.moveRecord position s).freeCount = s.freeCount ∧ (State.moveRecord position s).pending = s.pending := by
  unfold State.moveRecord
  split <;> simp

@[simp] theorem State.recordPageDone_frame (data : PageBytes) (next : Position) (s : State) :
    (State.recordPageDone data next s).pins = s.pins ∧ (State.recordPageDone data next s).control = s.control ∧
    (State.recordPageDone data next s).upstream = s.upstream ∧ (State.recordPageDone data next s).groups = s.groups ∧
    (State.recordPageDone data next s).lines = s.lines ∧ (State.recordPageDone data next s).cursor = s.cursor ∧
    (State.recordPageDone data next s).port = s.port ∧ (State.recordPageDone data next s).device = s.device ∧
    (State.recordPageDone data next s).monitor = s.monitor ∧
    (State.recordPageDone data next s).outcomes = s.outcomes ∧ (State.recordPageDone data next s).link = s.link ∧
    (State.recordPageDone data next s).boot = s.boot ∧ (State.recordPageDone data next s).freeCount = s.freeCount ∧
    (State.recordPageDone data next s).pending = s.pending := by
  unfold State.recordPageDone
  split <;> simp

@[simp] theorem State.endRecord_frame (s : State) :
    (State.endRecord s).pins = s.pins ∧ (State.endRecord s).control = s.control ∧
    (State.endRecord s).upstream = s.upstream ∧ (State.endRecord s).lines = s.lines ∧
    (State.endRecord s).cursor = s.cursor ∧ (State.endRecord s).port = s.port ∧
    (State.endRecord s).device = s.device ∧ (State.endRecord s).monitor = s.monitor ∧
    (State.endRecord s).boot = s.boot ∧ (State.endRecord s).freeCount = s.freeCount ∧
    (State.endRecord s).pending = s.pending := by
  unfold State.endRecord
  split <;> simp

@[simp] theorem State.mergeCompletion_frame (group : Nat) (k : Nat) (source : PageBytes) (s : State) :
    (State.mergeCompletion group k source s).pins = s.pins ∧
    (State.mergeCompletion group k source s).control = s.control ∧
    (State.mergeCompletion group k source s).upstream = s.upstream ∧
    (State.mergeCompletion group k source s).groups = s.groups ∧
    (State.mergeCompletion group k source s).cursor = s.cursor ∧
    (State.mergeCompletion group k source s).port = s.port ∧
    (State.mergeCompletion group k source s).device = s.device ∧
    (State.mergeCompletion group k source s).monitor = s.monitor ∧
    (State.mergeCompletion group k source s).outcomes = s.outcomes ∧
    (State.mergeCompletion group k source s).link = s.link ∧ (State.mergeCompletion group k source s).boot = s.boot ∧
    (State.mergeCompletion group k source s).freeCount = s.freeCount ∧
    (State.mergeCompletion group k source s).pending = s.pending := by
  unfold State.mergeCompletion
  split <;> simp

@[simp] theorem State.journalPassed_frame (data : PageBytes) (s : State) :
    (State.journalPassed data s).pins = s.pins ∧ (State.journalPassed data s).control = s.control ∧
    (State.journalPassed data s).upstream = s.upstream ∧ (State.journalPassed data s).cursor = s.cursor ∧
    (State.journalPassed data s).port = s.port ∧ (State.journalPassed data s).device = s.device ∧
    (State.journalPassed data s).monitor = s.monitor ∧ (State.journalPassed data s).boot = s.boot ∧
    (State.journalPassed data s).freeCount = s.freeCount ∧ (State.journalPassed data s).pending = s.pending := by
  unfold State.journalPassed
  (repeat' split) <;> simp

theorem State.completionStep_frame (s : State) (t : State) (h : State.completionStep s = some t) :
    t.pins = s.pins ∧ t.control = s.control ∧ t.upstream = s.upstream ∧ t.groups = s.groups ∧ t.cursor = s.cursor ∧
    t.port = s.port ∧ t.device = s.device ∧ t.monitor = s.monitor ∧ t.outcomes = s.outcomes ∧ t.link = s.link ∧
    t.boot = s.boot ∧ t.freeCount = s.freeCount ∧ t.pending = s.pending := by
  unfold State.completionStep at h
  (repeat' split at h) <;> cases h <;> simp

@[simp] theorem State.releaseRecord_frame (group : Nat) (lines : Nat) (s : State) :
    (State.releaseRecord group lines s).pins = s.pins ∧ (State.releaseRecord group lines s).control = s.control ∧
    (State.releaseRecord group lines s).upstream = s.upstream ∧
    (State.releaseRecord group lines s).groups = s.groups ∧ (State.releaseRecord group lines s).lines = s.lines ∧
    (State.releaseRecord group lines s).cursor = s.cursor ∧ (State.releaseRecord group lines s).port = s.port ∧
    (State.releaseRecord group lines s).device = s.device ∧ (State.releaseRecord group lines s).monitor = s.monitor ∧
    (State.releaseRecord group lines s).outcomes = s.outcomes ∧ (State.releaseRecord group lines s).link = s.link ∧
    (State.releaseRecord group lines s).boot = s.boot ∧ (State.releaseRecord group lines s).freeCount = s.freeCount ∧
    (State.releaseRecord group lines s).pending = s.pending := by
  unfold State.releaseRecord
  split <;> simp

@[simp] theorem State.retire_frame (group : Nat) (s : State) :
    (State.retire group s).pins = s.pins ∧ (State.retire group s).control = s.control ∧
    (State.retire group s).upstream = s.upstream ∧ (State.retire group s).port = s.port ∧
    (State.retire group s).device = s.device ∧ (State.retire group s).monitor = s.monitor ∧
    (State.retire group s).link = s.link ∧ (State.retire group s).boot = s.boot ∧
    (State.retire group s).freeCount = s.freeCount ∧ (State.retire group s).pending = s.pending := by
  simp [State.retire]

theorem State.applyStep_frame (s : State) (t : State) (h : State.applyStep s = some t) :
    t.pins = s.pins ∧ t.control = s.control ∧ t.upstream = s.upstream ∧ t.port = s.port ∧ t.device = s.device ∧
    t.monitor = s.monitor ∧ t.link = s.link ∧ t.boot = s.boot ∧ t.freeCount = s.freeCount ∧ t.pending = s.pending := by
  unfold State.applyStep at h
  (repeat' split at h) <;> cases h <;> simp

@[simp] theorem State.applyPassed_frame (s : State) :
    (State.applyPassed s).pins = s.pins ∧ (State.applyPassed s).control = s.control ∧
    (State.applyPassed s).upstream = s.upstream ∧ (State.applyPassed s).port = s.port ∧
    (State.applyPassed s).device = s.device ∧ (State.applyPassed s).monitor = s.monitor ∧
    (State.applyPassed s).link = s.link ∧ (State.applyPassed s).boot = s.boot ∧
    (State.applyPassed s).freeCount = s.freeCount ∧ (State.applyPassed s).pending = s.pending := by
  unfold State.applyPassed
  (repeat' split) <;> simp

@[simp] theorem State.withStartUpRecord_frame (f : StartUpRecord → StartUpRecord) (s : State) :
    (State.withStartUpRecord f s).pins = s.pins ∧ (State.withStartUpRecord f s).control = s.control ∧
    (State.withStartUpRecord f s).upstream = s.upstream ∧ (State.withStartUpRecord f s).groups = s.groups ∧
    (State.withStartUpRecord f s).lines = s.lines ∧ (State.withStartUpRecord f s).journal = s.journal ∧
    (State.withStartUpRecord f s).cursor = s.cursor ∧ (State.withStartUpRecord f s).port = s.port ∧
    (State.withStartUpRecord f s).device = s.device ∧ (State.withStartUpRecord f s).monitor = s.monitor ∧
    (State.withStartUpRecord f s).outcomes = s.outcomes ∧ (State.withStartUpRecord f s).link = s.link ∧
    (State.withStartUpRecord f s).freeCount = s.freeCount ∧ (State.withStartUpRecord f s).pending = s.pending := by
  and_intros <;> rfl

@[simp] theorem State.bootAt_frame (step : BootStep) (s : State) :
    (State.bootAt step s).pins = s.pins ∧ (State.bootAt step s).control = s.control ∧
    (State.bootAt step s).upstream = s.upstream ∧ (State.bootAt step s).groups = s.groups ∧
    (State.bootAt step s).lines = s.lines ∧ (State.bootAt step s).journal = s.journal ∧
    (State.bootAt step s).cursor = s.cursor ∧ (State.bootAt step s).port = s.port ∧
    (State.bootAt step s).device = s.device ∧ (State.bootAt step s).monitor = s.monitor ∧
    (State.bootAt step s).outcomes = s.outcomes ∧ (State.bootAt step s).link = s.link ∧
    (State.bootAt step s).freeCount = s.freeCount ∧ (State.bootAt step s).pending = s.pending := by
  and_intros <;> rfl

@[simp] theorem State.finishStartUp_frame (mode : Mode) (s : State) :
    (State.finishStartUp mode s).pins = s.pins ∧ (State.finishStartUp mode s).upstream = s.upstream ∧
    (State.finishStartUp mode s).journal = s.journal ∧ (State.finishStartUp mode s).cursor = s.cursor ∧
    (State.finishStartUp mode s).port = s.port ∧ (State.finishStartUp mode s).device = s.device ∧
    (State.finishStartUp mode s).outcomes = s.outcomes ∧ (State.finishStartUp mode s).freeCount = s.freeCount ∧
    (State.finishStartUp mode s).pending = s.pending := by
  and_intros <;> rfl

@[simp] theorem State.endInBare_frame (s : State) :
    (State.endInBare s).pins = s.pins ∧ (State.endInBare s).upstream = s.upstream ∧
    (State.endInBare s).journal = s.journal ∧ (State.endInBare s).cursor = s.cursor ∧
    (State.endInBare s).port = s.port ∧ (State.endInBare s).device = s.device ∧
    (State.endInBare s).outcomes = s.outcomes ∧ (State.endInBare s).freeCount = s.freeCount ∧
    (State.endInBare s).pending = s.pending := by
  and_intros <;> rfl

@[simp] theorem State.endInRunning_frame (s : State) :
    (State.endInRunning s).pins = s.pins ∧ (State.endInRunning s).upstream = s.upstream ∧
    (State.endInRunning s).cursor = s.cursor ∧ (State.endInRunning s).port = s.port ∧
    (State.endInRunning s).device = s.device ∧ (State.endInRunning s).outcomes = s.outcomes ∧
    (State.endInRunning s).freeCount = s.freeCount ∧ (State.endInRunning s).pending = s.pending := by
  and_intros <;> rfl

@[simp] theorem State.selectConfiguration_frame (copyA : Option PageBytes) (copyB : Option PageBytes) (s : State) :
    (State.selectConfiguration copyA copyB s).pins = s.pins ∧
    (State.selectConfiguration copyA copyB s).upstream = s.upstream ∧
    (State.selectConfiguration copyA copyB s).journal = s.journal ∧
    (State.selectConfiguration copyA copyB s).cursor = s.cursor ∧
    (State.selectConfiguration copyA copyB s).port = s.port ∧
    (State.selectConfiguration copyA copyB s).device = s.device ∧
    (State.selectConfiguration copyA copyB s).outcomes = s.outcomes ∧
    (State.selectConfiguration copyA copyB s).freeCount = s.freeCount ∧
    (State.selectConfiguration copyA copyB s).pending = s.pending := by
  unfold State.selectConfiguration
  split <;> simp

@[simp] theorem State.nextReplay_frame (s : State) :
    (State.nextReplay s).pins = s.pins ∧ (State.nextReplay s).upstream = s.upstream ∧
    (State.nextReplay s).cursor = s.cursor ∧ (State.nextReplay s).port = s.port ∧
    (State.nextReplay s).device = s.device ∧ (State.nextReplay s).outcomes = s.outcomes ∧
    (State.nextReplay s).freeCount = s.freeCount ∧ (State.nextReplay s).pending = s.pending := by
  unfold State.nextReplay
  split <;> simp

@[simp] theorem State.setCutOff_frame (s : State) :
    (State.setCutOff s).pins = s.pins ∧ (State.setCutOff s).upstream = s.upstream ∧
    (State.setCutOff s).cursor = s.cursor ∧ (State.setCutOff s).port = s.port ∧
    (State.setCutOff s).device = s.device ∧ (State.setCutOff s).outcomes = s.outcomes ∧
    (State.setCutOff s).freeCount = s.freeCount ∧ (State.setCutOff s).pending = s.pending := by
  simp [State.setCutOff]

@[simp] theorem State.judgeFrom_frame (i : Nat) (s : State) :
    (State.judgeFrom i s).pins = s.pins ∧ (State.judgeFrom i s).upstream = s.upstream ∧
    (State.judgeFrom i s).cursor = s.cursor ∧ (State.judgeFrom i s).port = s.port ∧
    (State.judgeFrom i s).device = s.device ∧ (State.judgeFrom i s).outcomes = s.outcomes ∧
    (State.judgeFrom i s).freeCount = s.freeCount ∧ (State.judgeFrom i s).pending = s.pending := by
  unfold State.judgeFrom
  split <;> simp

@[simp] theorem State.scanned_frame (k : Nat) (data : PageBytes) (s : State) :
    (State.scanned k data s).pins = s.pins ∧ (State.scanned k data s).upstream = s.upstream ∧
    (State.scanned k data s).cursor = s.cursor ∧ (State.scanned k data s).port = s.port ∧
    (State.scanned k data s).device = s.device ∧ (State.scanned k data s).outcomes = s.outcomes ∧
    (State.scanned k data s).freeCount = s.freeCount ∧ (State.scanned k data s).pending = s.pending := by
  unfold State.scanned
  dsimp only
  (repeat' split) <;> simp

@[simp] theorem State.recordJudged_frame (i : Nat) (complete : Bool) (s : State) :
    (State.recordJudged i complete s).pins = s.pins ∧ (State.recordJudged i complete s).upstream = s.upstream ∧
    (State.recordJudged i complete s).cursor = s.cursor ∧ (State.recordJudged i complete s).port = s.port ∧
    (State.recordJudged i complete s).device = s.device ∧ (State.recordJudged i complete s).outcomes = s.outcomes ∧
    (State.recordJudged i complete s).freeCount = s.freeCount ∧
    (State.recordJudged i complete s).pending = s.pending := by
  simp [State.recordJudged]

@[simp] theorem State.judged_frame (i : Nat) (j : Nat) (check : CheckWord) (data : PageBytes) (s : State) :
    (State.judged i j check data s).pins = s.pins ∧ (State.judged i j check data s).upstream = s.upstream ∧
    (State.judged i j check data s).cursor = s.cursor ∧ (State.judged i j check data s).port = s.port ∧
    (State.judged i j check data s).device = s.device ∧ (State.judged i j check data s).outcomes = s.outcomes ∧
    (State.judged i j check data s).freeCount = s.freeCount ∧ (State.judged i j check data s).pending = s.pending := by
  unfold State.judged
  (repeat' split) <;> simp

@[simp] theorem State.replayed_frame (k : Nat) (s : State) :
    (State.replayed k s).pins = s.pins ∧ (State.replayed k s).upstream = s.upstream ∧
    (State.replayed k s).cursor = s.cursor ∧ (State.replayed k s).port = s.port ∧
    (State.replayed k s).device = s.device ∧ (State.replayed k s).outcomes = s.outcomes ∧
    (State.replayed k s).freeCount = s.freeCount ∧ (State.replayed k s).pending = s.pending := by
  unfold State.replayed
  dsimp only
  (repeat' split) <;> simp

@[simp] theorem State.startUpPassed_frame (page : Nat) (data : PageBytes) (s : State) :
    (State.startUpPassed page data s).pins = s.pins ∧ (State.startUpPassed page data s).upstream = s.upstream ∧
    (State.startUpPassed page data s).cursor = s.cursor ∧ (State.startUpPassed page data s).port = s.port ∧
    (State.startUpPassed page data s).device = s.device ∧ (State.startUpPassed page data s).outcomes = s.outcomes ∧
    (State.startUpPassed page data s).freeCount = s.freeCount ∧ (State.startUpPassed page data s).pending = s.pending := by
  unfold State.startUpPassed
  split <;> simp

@[simp] theorem State.withDrain_frame (drain : Drain) (s : State) :
    (State.withDrain drain s).pins = s.pins ∧ (State.withDrain drain s).control = s.control ∧
    (State.withDrain drain s).upstream = s.upstream ∧ (State.withDrain drain s).groups = s.groups ∧
    (State.withDrain drain s).lines = s.lines ∧ (State.withDrain drain s).journal = s.journal ∧
    (State.withDrain drain s).cursor = s.cursor ∧ (State.withDrain drain s).port = s.port ∧
    (State.withDrain drain s).device = s.device ∧ (State.withDrain drain s).monitor = s.monitor ∧
    (State.withDrain drain s).outcomes = s.outcomes ∧ (State.withDrain drain s).boot = s.boot ∧
    (State.withDrain drain s).freeCount = s.freeCount ∧ (State.withDrain drain s).pending = s.pending := by
  and_intros <;> rfl

theorem State.drainStep_frame (s : State) (t : State) (h : State.drainStep s = some t) :
    t.pins = s.pins ∧ t.device = s.device ∧ t.freeCount = s.freeCount ∧ t.pending = s.pending := by
  unfold State.drainStep at h
  (repeat' split at h) <;> cases h <;> simp

@[simp] theorem State.storeProgramEnded_frame (passed : Bool) (s : State) :
    (State.storeProgramEnded passed s).pins = s.pins ∧ (State.storeProgramEnded passed s).device = s.device ∧
    (State.storeProgramEnded passed s).freeCount = s.freeCount ∧
    (State.storeProgramEnded passed s).pending = s.pending := by
  unfold State.storeProgramEnded
  (repeat' split) <;> simp

@[simp] theorem State.grant_frame (requester : Requester) (q : Request) (s : State) :
    (State.grant requester q s).pins = s.pins ∧ (State.grant requester q s).control = s.control ∧
    (State.grant requester q s).upstream = s.upstream ∧ (State.grant requester q s).groups = s.groups ∧
    (State.grant requester q s).lines = s.lines ∧ (State.grant requester q s).journal = s.journal ∧
    (State.grant requester q s).cursor = s.cursor ∧ (State.grant requester q s).device = s.device ∧
    (State.grant requester q s).monitor = s.monitor ∧ (State.grant requester q s).outcomes = s.outcomes ∧
    (State.grant requester q s).link = s.link ∧ (State.grant requester q s).boot = s.boot ∧
    (State.grant requester q s).freeCount = s.freeCount ∧ (State.grant requester q s).pending = s.pending := by
  and_intros <;> rfl

@[simp] theorem State.markGranted_frame (s : State) :
    (State.markGranted s).pins = s.pins ∧ (State.markGranted s).control = s.control ∧
    (State.markGranted s).groups = s.groups ∧ (State.markGranted s).lines = s.lines ∧
    (State.markGranted s).journal = s.journal ∧ (State.markGranted s).cursor = s.cursor ∧
    (State.markGranted s).port = s.port ∧ (State.markGranted s).device = s.device ∧
    (State.markGranted s).monitor = s.monitor ∧ (State.markGranted s).outcomes = s.outcomes ∧
    (State.markGranted s).link = s.link ∧ (State.markGranted s).boot = s.boot ∧
    (State.markGranted s).freeCount = s.freeCount ∧ (State.markGranted s).pending = s.pending := by
  unfold State.markGranted
  (repeat' split) <;> simp

@[simp] theorem State.grantRead_frame (q : Request) (s : State) :
    (State.grantRead q s).pins = s.pins ∧ (State.grantRead q s).control = s.control ∧
    (State.grantRead q s).groups = s.groups ∧ (State.grantRead q s).lines = s.lines ∧
    (State.grantRead q s).journal = s.journal ∧ (State.grantRead q s).cursor = s.cursor ∧
    (State.grantRead q s).device = s.device ∧ (State.grantRead q s).monitor = s.monitor ∧
    (State.grantRead q s).outcomes = s.outcomes ∧ (State.grantRead q s).link = s.link ∧
    (State.grantRead q s).boot = s.boot ∧ (State.grantRead q s).freeCount = s.freeCount ∧
    (State.grantRead q s).pending = s.pending := by
  simp [State.grantRead]

@[simp] theorem State.grantJournal_frame (q : Request) (s : State) :
    (State.grantJournal q s).pins = s.pins ∧ (State.grantJournal q s).control = s.control ∧
    (State.grantJournal q s).upstream = s.upstream ∧ (State.grantJournal q s).groups = s.groups ∧
    (State.grantJournal q s).lines = s.lines ∧ (State.grantJournal q s).journal = s.journal ∧
    (State.grantJournal q s).cursor = s.cursor ∧ (State.grantJournal q s).device = s.device ∧
    (State.grantJournal q s).monitor = s.monitor ∧ (State.grantJournal q s).outcomes = s.outcomes ∧
    (State.grantJournal q s).link = s.link ∧ (State.grantJournal q s).boot = s.boot ∧
    (State.grantJournal q s).freeCount = s.freeCount ∧ (State.grantJournal q s).pending = s.pending := by
  unfold State.grantJournal
  split <;> simp

@[simp] theorem State.grantApply_frame (q : Request) (s : State) :
    (State.grantApply q s).pins = s.pins ∧ (State.grantApply q s).control = s.control ∧
    (State.grantApply q s).upstream = s.upstream ∧ (State.grantApply q s).groups = s.groups ∧
    (State.grantApply q s).lines = s.lines ∧ (State.grantApply q s).journal = s.journal ∧
    (State.grantApply q s).cursor = s.cursor ∧ (State.grantApply q s).device = s.device ∧
    (State.grantApply q s).monitor = s.monitor ∧ (State.grantApply q s).outcomes = s.outcomes ∧
    (State.grantApply q s).link = s.link ∧ (State.grantApply q s).boot = s.boot ∧
    (State.grantApply q s).freeCount = s.freeCount ∧ (State.grantApply q s).pending = s.pending := by
  and_intros <;> rfl

@[simp] theorem State.resumeRunning_frame (s : State) :
    (State.resumeRunning s).pins = s.pins ∧ (State.resumeRunning s).upstream = s.upstream ∧
    (State.resumeRunning s).groups = s.groups ∧ (State.resumeRunning s).lines = s.lines ∧
    (State.resumeRunning s).journal = s.journal ∧ (State.resumeRunning s).cursor = s.cursor ∧
    (State.resumeRunning s).port = s.port ∧ (State.resumeRunning s).device = s.device ∧
    (State.resumeRunning s).outcomes = s.outcomes ∧ (State.resumeRunning s).link = s.link ∧
    (State.resumeRunning s).boot = s.boot ∧ (State.resumeRunning s).freeCount = s.freeCount ∧
    (State.resumeRunning s).pending = s.pending := by
  simp [State.resumeRunning]

@[simp] theorem State.resumeStartUp_frame (s : State) :
    (State.resumeStartUp s).pins = s.pins ∧ (State.resumeStartUp s).upstream = s.upstream ∧
    (State.resumeStartUp s).lines = s.lines ∧ (State.resumeStartUp s).journal = s.journal ∧
    (State.resumeStartUp s).cursor = s.cursor ∧ (State.resumeStartUp s).port = s.port ∧
    (State.resumeStartUp s).device = s.device ∧ (State.resumeStartUp s).monitor = s.monitor ∧
    (State.resumeStartUp s).link = s.link ∧ (State.resumeStartUp s).boot = s.boot ∧
    (State.resumeStartUp s).freeCount = s.freeCount ∧ (State.resumeStartUp s).pending = s.pending := by
  and_intros <;> rfl

@[simp] theorem State.retryFailed_frame (kind : FaultKind) (s : State) :
    (State.retryFailed kind s).pins = s.pins ∧ (State.retryFailed kind s).upstream = s.upstream ∧
    (State.retryFailed kind s).groups = s.groups ∧ (State.retryFailed kind s).lines = s.lines ∧
    (State.retryFailed kind s).journal = s.journal ∧ (State.retryFailed kind s).cursor = s.cursor ∧
    (State.retryFailed kind s).port = s.port ∧ (State.retryFailed kind s).device = s.device ∧
    (State.retryFailed kind s).monitor = s.monitor ∧ (State.retryFailed kind s).outcomes = s.outcomes ∧
    (State.retryFailed kind s).link = s.link ∧ (State.retryFailed kind s).boot = s.boot ∧
    (State.retryFailed kind s).freeCount = s.freeCount ∧ (State.retryFailed kind s).pending = s.pending := by
  and_intros <;> rfl

@[simp] theorem State.engineFailed_frame (owner : RetryOwner) (op : Operation) (result : OperationResult) (s : State) :
    (State.engineFailed owner op result s).pins = s.pins ∧ (State.engineFailed owner op result s).cursor = s.cursor ∧
    (State.engineFailed owner op result s).port = s.port ∧ (State.engineFailed owner op result s).device = s.device ∧
    (State.engineFailed owner op result s).boot = s.boot ∧
    (State.engineFailed owner op result s).freeCount = s.freeCount ∧
    (State.engineFailed owner op result s).pending = s.pending := by
  unfold State.engineFailed
  (repeat' split) <;> simp

@[simp] theorem State.startUpFailed_frame (op : Operation) (result : OperationResult) (s : State) :
    (State.startUpFailed op result s).pins = s.pins ∧ (State.startUpFailed op result s).upstream = s.upstream ∧
    (State.startUpFailed op result s).groups = s.groups ∧ (State.startUpFailed op result s).lines = s.lines ∧
    (State.startUpFailed op result s).journal = s.journal ∧ (State.startUpFailed op result s).cursor = s.cursor ∧
    (State.startUpFailed op result s).port = s.port ∧ (State.startUpFailed op result s).device = s.device ∧
    (State.startUpFailed op result s).monitor = s.monitor ∧ (State.startUpFailed op result s).outcomes = s.outcomes ∧
    (State.startUpFailed op result s).link = s.link ∧ (State.startUpFailed op result s).boot = s.boot ∧
    (State.startUpFailed op result s).freeCount = s.freeCount ∧
    (State.startUpFailed op result s).pending = s.pending := by
  unfold State.startUpFailed
  split <;> simp

@[simp] theorem State.readPassed_frame (page : Nat) (data : PageBytes) (s : State) :
    (State.readPassed page data s).pins = s.pins ∧ (State.readPassed page data s).control = s.control ∧
    (State.readPassed page data s).groups = s.groups ∧ (State.readPassed page data s).lines = s.lines ∧
    (State.readPassed page data s).journal = s.journal ∧ (State.readPassed page data s).cursor = s.cursor ∧
    (State.readPassed page data s).port = s.port ∧ (State.readPassed page data s).device = s.device ∧
    (State.readPassed page data s).outcomes = s.outcomes ∧ (State.readPassed page data s).link = s.link ∧
    (State.readPassed page data s).boot = s.boot ∧ (State.readPassed page data s).freeCount = s.freeCount ∧
    (State.readPassed page data s).pending = s.pending := by
  unfold State.readPassed
  split <;> simp

@[simp] theorem State.readTimedOut_frame (s : State) :
    (State.readTimedOut s).pins = s.pins ∧ (State.readTimedOut s).control = s.control ∧
    (State.readTimedOut s).groups = s.groups ∧ (State.readTimedOut s).lines = s.lines ∧
    (State.readTimedOut s).journal = s.journal ∧ (State.readTimedOut s).cursor = s.cursor ∧
    (State.readTimedOut s).port = s.port ∧ (State.readTimedOut s).device = s.device ∧
    (State.readTimedOut s).outcomes = s.outcomes ∧ (State.readTimedOut s).boot = s.boot ∧
    (State.readTimedOut s).freeCount = s.freeCount ∧ (State.readTimedOut s).pending = s.pending := by
  unfold State.readTimedOut
  split <;> simp

@[simp] theorem State.handOver_frame (op : Operation) (result : OperationResult) (s : State) :
    (State.handOver op result s).pins = s.pins ∧ (State.handOver op result s).device = s.device ∧
    (State.handOver op result s).freeCount = s.freeCount ∧ (State.handOver op result s).pending = s.pending := by
  unfold State.handOver
  (repeat' split) <;> simp

@[simp] theorem State.endOperation_frame (op : Operation) (result : OperationResult) (s : State) :
    (State.endOperation op result s).pins = s.pins ∧ (State.endOperation op result s).device = s.device ∧
    (State.endOperation op result s).freeCount = s.freeCount ∧ (State.endOperation op result s).pending = s.pending := by
  simp [State.endOperation]

@[simp] theorem State.withOperation_frame (op : Operation) (s : State) :
    (State.withOperation op s).pins = s.pins ∧ (State.withOperation op s).control = s.control ∧
    (State.withOperation op s).upstream = s.upstream ∧ (State.withOperation op s).groups = s.groups ∧
    (State.withOperation op s).lines = s.lines ∧ (State.withOperation op s).journal = s.journal ∧
    (State.withOperation op s).cursor = s.cursor ∧ (State.withOperation op s).device = s.device ∧
    (State.withOperation op s).monitor = s.monitor ∧ (State.withOperation op s).outcomes = s.outcomes ∧
    (State.withOperation op s).link = s.link ∧ (State.withOperation op s).boot = s.boot ∧
    (State.withOperation op s).freeCount = s.freeCount ∧ (State.withOperation op s).pending = s.pending := by
  and_intros <;> rfl

@[simp] theorem State.startOpTimer_frame (s : State) :
    (State.startOpTimer s).pins = s.pins ∧ (State.startOpTimer s).control = s.control ∧
    (State.startOpTimer s).upstream = s.upstream ∧ (State.startOpTimer s).groups = s.groups ∧
    (State.startOpTimer s).lines = s.lines ∧ (State.startOpTimer s).journal = s.journal ∧
    (State.startOpTimer s).cursor = s.cursor ∧ (State.startOpTimer s).device = s.device ∧
    (State.startOpTimer s).monitor = s.monitor ∧ (State.startOpTimer s).outcomes = s.outcomes ∧
    (State.startOpTimer s).link = s.link ∧ (State.startOpTimer s).boot = s.boot ∧
    (State.startOpTimer s).freeCount = s.freeCount ∧ (State.startOpTimer s).pending = s.pending := by
  and_intros <;> rfl

@[simp] theorem State.invalidateBuffer_frame (page : Nat) (s : State) :
    (State.invalidateBuffer page s).pins = s.pins ∧ (State.invalidateBuffer page s).control = s.control ∧
    (State.invalidateBuffer page s).groups = s.groups ∧ (State.invalidateBuffer page s).lines = s.lines ∧
    (State.invalidateBuffer page s).journal = s.journal ∧ (State.invalidateBuffer page s).cursor = s.cursor ∧
    (State.invalidateBuffer page s).port = s.port ∧ (State.invalidateBuffer page s).device = s.device ∧
    (State.invalidateBuffer page s).monitor = s.monitor ∧ (State.invalidateBuffer page s).outcomes = s.outcomes ∧
    (State.invalidateBuffer page s).link = s.link ∧ (State.invalidateBuffer page s).boot = s.boot ∧
    (State.invalidateBuffer page s).freeCount = s.freeCount ∧ (State.invalidateBuffer page s).pending = s.pending := by
  unfold State.invalidateBuffer
  (repeat' split) <;> simp

@[simp] theorem State.sendProgram_frame (op : Operation) (s : State) :
    (State.sendProgram op s).pins = s.pins ∧ (State.sendProgram op s).control = s.control ∧
    (State.sendProgram op s).upstream = s.upstream ∧ (State.sendProgram op s).groups = s.groups ∧
    (State.sendProgram op s).lines = s.lines ∧ (State.sendProgram op s).journal = s.journal ∧
    (State.sendProgram op s).cursor = s.cursor ∧ (State.sendProgram op s).monitor = s.monitor ∧
    (State.sendProgram op s).outcomes = s.outcomes ∧ (State.sendProgram op s).link = s.link ∧
    (State.sendProgram op s).boot = s.boot ∧ (State.sendProgram op s).freeCount = s.freeCount ∧
    (State.sendProgram op s).pending = s.pending := by
  unfold State.sendProgram
  dsimp only
  (repeat' split) <;> simp

@[simp] theorem State.proceed_frame (op : Operation) (s : State) :
    (State.proceed op s).pins = s.pins ∧ (State.proceed op s).control = s.control ∧
    (State.proceed op s).upstream = s.upstream ∧ (State.proceed op s).groups = s.groups ∧
    (State.proceed op s).lines = s.lines ∧ (State.proceed op s).journal = s.journal ∧
    (State.proceed op s).cursor = s.cursor ∧ (State.proceed op s).monitor = s.monitor ∧
    (State.proceed op s).outcomes = s.outcomes ∧ (State.proceed op s).link = s.link ∧
    (State.proceed op s).boot = s.boot ∧ (State.proceed op s).freeCount = s.freeCount ∧
    (State.proceed op s).pending = s.pending := by
  unfold State.proceed
  split <;> simp

@[simp] theorem State.readyCheck_frame (op : Operation) (s : State) :
    (State.readyCheck op s).pins = s.pins ∧ (State.readyCheck op s).control = s.control ∧
    (State.readyCheck op s).upstream = s.upstream ∧ (State.readyCheck op s).groups = s.groups ∧
    (State.readyCheck op s).lines = s.lines ∧ (State.readyCheck op s).journal = s.journal ∧
    (State.readyCheck op s).cursor = s.cursor ∧ (State.readyCheck op s).monitor = s.monitor ∧
    (State.readyCheck op s).outcomes = s.outcomes ∧ (State.readyCheck op s).link = s.link ∧
    (State.readyCheck op s).boot = s.boot ∧ (State.readyCheck op s).freeCount = s.freeCount ∧
    (State.readyCheck op s).pending = s.pending := by
  unfold State.readyCheck
  dsimp only
  (repeat' split) <;> simp

@[simp] theorem State.beginAttempt_frame (op : Operation) (s : State) :
    (State.beginAttempt op s).pins = s.pins ∧ (State.beginAttempt op s).control = s.control ∧
    (State.beginAttempt op s).groups = s.groups ∧ (State.beginAttempt op s).lines = s.lines ∧
    (State.beginAttempt op s).journal = s.journal ∧ (State.beginAttempt op s).cursor = s.cursor ∧
    (State.beginAttempt op s).monitor = s.monitor ∧ (State.beginAttempt op s).outcomes = s.outcomes ∧
    (State.beginAttempt op s).link = s.link ∧ (State.beginAttempt op s).boot = s.boot ∧
    (State.beginAttempt op s).freeCount = s.freeCount ∧ (State.beginAttempt op s).pending = s.pending := by
  unfold State.beginAttempt
  (repeat' split) <;> simp

@[simp] theorem State.attemptFailed_frame (op : Operation) (s : State) :
    (State.attemptFailed op s).pins = s.pins ∧ (State.attemptFailed op s).device = s.device ∧
    (State.attemptFailed op s).freeCount = s.freeCount ∧ (State.attemptFailed op s).pending = s.pending := by
  unfold State.attemptFailed
  dsimp only
  (repeat' split) <;> simp

theorem State.operationStep_frame (s : State) (t : State) (h : State.operationStep s = some t) :
    t.pins = s.pins ∧ t.freeCount = s.freeCount ∧ t.pending = s.pending := by
  unfold State.operationStep at h
  (repeat' split at h) <;> cases h <;> simp

theorem State.downStep_frame (s : State) (t : State) (h : State.downStep s = some t) :
    t.pins = s.pins ∧ t.lines = s.lines ∧ t.pending = s.pending := by
  unfold State.downStep at h
  split at h <;> cases h <;> simp

theorem State.dozeStep_frame (s : State) (t : State) (h : State.dozeStep s = some t) :
    t.pins = s.pins ∧ t.groups = s.groups ∧ t.lines = s.lines ∧ t.journal = s.journal ∧ t.cursor = s.cursor ∧
    t.outcomes = s.outcomes ∧ t.link = s.link ∧ t.boot = s.boot ∧ t.pending = s.pending := by
  unfold State.dozeStep at h
  split at h <;> cases h <;> simp

@[simp] theorem State.applySupply_frame (rst : Bool) (s : State) :
    (State.applySupply rst s).control = s.control ∧ (State.applySupply rst s).upstream = s.upstream ∧
    (State.applySupply rst s).groups = s.groups ∧ (State.applySupply rst s).lines = s.lines ∧
    (State.applySupply rst s).journal = s.journal ∧ (State.applySupply rst s).cursor = s.cursor ∧
    (State.applySupply rst s).port = s.port ∧ (State.applySupply rst s).device = s.device ∧
    (State.applySupply rst s).outcomes = s.outcomes ∧ (State.applySupply rst s).link = s.link ∧
    (State.applySupply rst s).boot = s.boot ∧ (State.applySupply rst s).freeCount = s.freeCount ∧
    (State.applySupply rst s).pending = s.pending := by
  and_intros <;> rfl

theorem State.onPowerOn_frame (s : State) (t : State) (h : State.onPowerOn s = some t) :
    t.device = s.device ∧ t.freeCount = s.freeCount ∧ t.pending = s.pending := by
  unfold State.onPowerOn at h
  split at h <;> cases h <;> simp

theorem State.onSupplyAppliedInReset_frame (s : State) (t : State) (h : State.onSupplyAppliedInReset s = some t) :
    t.control = s.control ∧ t.upstream = s.upstream ∧ t.groups = s.groups ∧ t.lines = s.lines ∧ t.journal = s.journal ∧
    t.cursor = s.cursor ∧ t.port = s.port ∧ t.device = s.device ∧ t.outcomes = s.outcomes ∧ t.link = s.link ∧
    t.boot = s.boot ∧ t.freeCount = s.freeCount ∧ t.pending = s.pending := by
  unfold State.onSupplyAppliedInReset at h
  split at h <;> cases h <;> simp

theorem State.onSupplyBelowOperatingLevel_frame (s : State) (t : State) (h : State.onSupplyBelowOperatingLevel s = some t) :
    t.pending = s.pending := by
  unfold State.onSupplyBelowOperatingLevel at h
  split at h <;> cases h <;> simp

theorem State.onRstFall_frame (s : State) (t : State) (h : State.onRstFall s = some t) :
    t.pending = s.pending := by
  unfold State.onRstFall at h
  (repeat' split at h) <;> cases h <;> simp

theorem State.onRstRise_frame (s : State) (t : State) (h : State.onRstRise s = some t) :
    t.device = s.device ∧ t.freeCount = s.freeCount ∧ t.pending = s.pending := by
  unfold State.onRstRise at h
  (repeat' split at h) <;> cases h <;> simp

@[simp] theorem State.unsettle_frame (s : State) :
    (State.unsettle s).control = s.control ∧ (State.unsettle s).upstream = s.upstream ∧
    (State.unsettle s).groups = s.groups ∧ (State.unsettle s).lines = s.lines ∧
    (State.unsettle s).journal = s.journal ∧ (State.unsettle s).cursor = s.cursor ∧ (State.unsettle s).port = s.port ∧
    (State.unsettle s).device = s.device ∧ (State.unsettle s).outcomes = s.outcomes ∧
    (State.unsettle s).link = s.link ∧ (State.unsettle s).boot = s.boot ∧ (State.unsettle s).freeCount = s.freeCount ∧
    (State.unsettle s).pending = s.pending := by
  and_intros <;> rfl

theorem State.onSupplyWarning_frame (s : State) (t : State) (h : State.onSupplyWarning s = some t) :
    t.pending = s.pending := by
  unfold State.onSupplyWarning at h
  (repeat' split at h) <;> cases h <;> simp

theorem State.onPfiRise_frame (s : State) (t : State) (h : State.onPfiRise s = some t) :
    t.control = s.control ∧ t.upstream = s.upstream ∧ t.groups = s.groups ∧ t.lines = s.lines ∧ t.journal = s.journal ∧
    t.cursor = s.cursor ∧ t.port = s.port ∧ t.device = s.device ∧ t.outcomes = s.outcomes ∧ t.link = s.link ∧
    t.boot = s.boot ∧ t.freeCount = s.freeCount ∧ t.pending = s.pending := by
  unfold State.onPfiRise at h
  (repeat' split at h) <;> cases h <;> simp

theorem State.onPfiDebounceExpiry_frame (s : State) (t : State) (h : State.onPfiDebounceExpiry s = some t) :
    t.pins = s.pins ∧ t.device = s.device ∧ t.freeCount = s.freeCount ∧ t.pending = s.pending := by
  unfold State.onPfiDebounceExpiry at h
  (repeat' split at h) <;> cases h <;> simp

theorem State.onHoldUpBudgetExpiry_frame (s : State) (t : State) (h : State.onHoldUpBudgetExpiry s = some t) :
    t.pins = s.pins ∧ t.control = s.control ∧ t.upstream = s.upstream ∧ t.groups = s.groups ∧ t.lines = s.lines ∧
    t.journal = s.journal ∧ t.cursor = s.cursor ∧ t.port = s.port ∧ t.device = s.device ∧ t.outcomes = s.outcomes ∧
    t.link = s.link ∧ t.boot = s.boot ∧ t.freeCount = s.freeCount ∧ t.pending = s.pending := by
  unfold State.onHoldUpBudgetExpiry at h
  split at h <;> cases h <;> simp

theorem State.onDozeIdleExpiry_frame (s : State) (t : State) (h : State.onDozeIdleExpiry s = some t) :
    t.pins = s.pins ∧ t.control = s.control ∧ t.upstream = s.upstream ∧ t.groups = s.groups ∧ t.lines = s.lines ∧
    t.journal = s.journal ∧ t.cursor = s.cursor ∧ t.port = s.port ∧ t.device = s.device ∧ t.outcomes = s.outcomes ∧
    t.link = s.link ∧ t.boot = s.boot ∧ t.freeCount = s.freeCount ∧ t.pending = s.pending := by
  unfold State.onDozeIdleExpiry at h
  split at h <;> cases h <;> simp

@[simp] theorem State.moveGrp_frame (level : Bool) (s : State) :
    (State.moveGrp level s).control = s.control ∧ (State.moveGrp level s).upstream = s.upstream ∧
    (State.moveGrp level s).groups = s.groups ∧ (State.moveGrp level s).lines = s.lines ∧
    (State.moveGrp level s).journal = s.journal ∧ (State.moveGrp level s).cursor = s.cursor ∧
    (State.moveGrp level s).port = s.port ∧ (State.moveGrp level s).device = s.device ∧
    (State.moveGrp level s).monitor = s.monitor ∧ (State.moveGrp level s).outcomes = s.outcomes ∧
    (State.moveGrp level s).link = s.link ∧ (State.moveGrp level s).boot = s.boot ∧
    (State.moveGrp level s).freeCount = s.freeCount ∧ (State.moveGrp level s).pending = s.pending := by
  and_intros <;> rfl

theorem State.onGrpAssertion_frame (s : State) (t : State) (h : State.onGrpAssertion s = some t) :
    t.upstream = s.upstream ∧ t.journal = s.journal ∧ t.cursor = s.cursor ∧ t.device = s.device ∧ t.boot = s.boot ∧
    t.freeCount = s.freeCount ∧ t.pending = s.pending := by
  unfold State.onGrpAssertion at h
  (repeat' split at h) <;> cases h <;> simp

theorem State.onGrpRelease_frame (dsc : Bool) (s : State) (t : State) (h : State.onGrpRelease dsc s = some t) :
    t.upstream = s.upstream ∧ t.journal = s.journal ∧ t.cursor = s.cursor ∧ t.device = s.device ∧ t.boot = s.boot ∧
    t.freeCount = s.freeCount ∧ t.pending = s.pending := by
  unfold State.onGrpRelease at h
  (repeat' split at h) <;> cases h <;> simp

theorem State.onAmbientIdleExpiry_frame (s : State) (t : State) (h : State.onAmbientIdleExpiry s = some t) :
    t.pins = s.pins ∧ t.control = s.control ∧ t.upstream = s.upstream ∧ t.lines = s.lines ∧ t.journal = s.journal ∧
    t.cursor = s.cursor ∧ t.port = s.port ∧ t.device = s.device ∧ t.monitor = s.monitor ∧ t.outcomes = s.outcomes ∧
    t.link = s.link ∧ t.boot = s.boot ∧ t.freeCount = s.freeCount ∧ t.pending = s.pending := by
  unfold State.onAmbientIdleExpiry at h
  split at h <;> cases h <;> simp

theorem State.onOutcomePulse_frame (s : State) (t : State) (h : State.onOutcomePulse s = some t) :
    t.pins = s.pins ∧ t.control = s.control ∧ t.upstream = s.upstream ∧ t.groups = s.groups ∧ t.lines = s.lines ∧
    t.journal = s.journal ∧ t.cursor = s.cursor ∧ t.port = s.port ∧ t.device = s.device ∧ t.monitor = s.monitor ∧
    t.link = s.link ∧ t.boot = s.boot ∧ t.freeCount = s.freeCount ∧ t.pending = s.pending := by
  unfold State.onOutcomePulse at h
  (repeat' split at h) <;> cases h <;> simp

theorem State.onCackRise_frame (s : State) (t : State) (h : State.onCackRise s = some t) :
    t.pins = s.pins ∧ t.control = s.control ∧ t.upstream = s.upstream ∧ t.groups = s.groups ∧ t.lines = s.lines ∧
    t.journal = s.journal ∧ t.cursor = s.cursor ∧ t.port = s.port ∧ t.device = s.device ∧ t.monitor = s.monitor ∧
    t.link = s.link ∧ t.boot = s.boot ∧ t.freeCount = s.freeCount ∧ t.pending = s.pending := by
  unfold State.onCackRise at h
  split at h <;> cases h <;> simp

theorem State.onCackFall_frame (s : State) (t : State) (h : State.onCackFall s = some t) :
    t.pins = s.pins ∧ t.control = s.control ∧ t.upstream = s.upstream ∧ t.groups = s.groups ∧ t.lines = s.lines ∧
    t.journal = s.journal ∧ t.cursor = s.cursor ∧ t.port = s.port ∧ t.device = s.device ∧ t.monitor = s.monitor ∧
    t.link = s.link ∧ t.boot = s.boot ∧ t.freeCount = s.freeCount ∧ t.pending = s.pending := by
  unfold State.onCackFall at h
  split at h <;> cases h <;> simp

@[simp] theorem State.beginAccess_frame (s : State) :
    (State.beginAccess s).pins = s.pins ∧ (State.beginAccess s).groups = s.groups ∧
    (State.beginAccess s).lines = s.lines ∧ (State.beginAccess s).journal = s.journal ∧
    (State.beginAccess s).cursor = s.cursor ∧ (State.beginAccess s).device = s.device ∧
    (State.beginAccess s).outcomes = s.outcomes ∧ (State.beginAccess s).link = s.link ∧
    (State.beginAccess s).boot = s.boot ∧ (State.beginAccess s).freeCount = s.freeCount ∧
    (State.beginAccess s).pending = s.pending := by
  unfold State.beginAccess
  split <;> simp

theorem State.atStrobe_frame (s : State) (t : State) (h : State.atStrobe s = some t) :
    t.pins = s.pins ∧ t.groups = s.groups ∧ t.lines = s.lines ∧ t.journal = s.journal ∧ t.cursor = s.cursor ∧
    t.device = s.device ∧ t.outcomes = s.outcomes ∧ t.link = s.link ∧ t.boot = s.boot ∧ t.freeCount = s.freeCount ∧
    t.pending = s.pending := by
  unfold State.atStrobe at h
  (repeat' split at h) <;> cases h <;> simp

@[simp] theorem State.writeByAddress_frame (page : Nat) (offset : Nat) (data : Byte) (s : State) :
    (State.writeByAddress page offset data s).pins = s.pins ∧
    (State.writeByAddress page offset data s).control = s.control ∧
    (State.writeByAddress page offset data s).journal = s.journal ∧
    (State.writeByAddress page offset data s).cursor = s.cursor ∧
    (State.writeByAddress page offset data s).port = s.port ∧
    (State.writeByAddress page offset data s).device = s.device ∧
    (State.writeByAddress page offset data s).boot = s.boot ∧
    (State.writeByAddress page offset data s).freeCount = s.freeCount ∧
    (State.writeByAddress page offset data s).pending = s.pending := by
  unfold State.writeByAddress
  (repeat' split) <;> simp

@[simp] theorem State.decideWrite_frame (page : Nat) (offset : Nat) (data : Byte) (s : State) :
    (State.decideWrite page offset data s).pins = s.pins ∧ (State.decideWrite page offset data s).journal = s.journal ∧
    (State.decideWrite page offset data s).cursor = s.cursor ∧
    (State.decideWrite page offset data s).device = s.device ∧ (State.decideWrite page offset data s).boot = s.boot ∧
    (State.decideWrite page offset data s).freeCount = s.freeCount ∧
    (State.decideWrite page offset data s).pending = s.pending := by
  unfold State.decideWrite
  (repeat' split) <;> simp

@[simp] theorem State.readByAddress_frame (page : Nat) (offset : Nat) (s : State) :
    (State.readByAddress page offset s).pins = s.pins ∧ (State.readByAddress page offset s).control = s.control ∧
    (State.readByAddress page offset s).groups = s.groups ∧ (State.readByAddress page offset s).lines = s.lines ∧
    (State.readByAddress page offset s).journal = s.journal ∧ (State.readByAddress page offset s).cursor = s.cursor ∧
    (State.readByAddress page offset s).port = s.port ∧ (State.readByAddress page offset s).device = s.device ∧
    (State.readByAddress page offset s).outcomes = s.outcomes ∧ (State.readByAddress page offset s).link = s.link ∧
    (State.readByAddress page offset s).boot = s.boot ∧ (State.readByAddress page offset s).freeCount = s.freeCount ∧
    (State.readByAddress page offset s).pending = s.pending := by
  unfold State.readByAddress
  (repeat' split) <;> simp

@[simp] theorem State.readInHoldup_frame (page : Nat) (offset : Nat) (s : State) :
    (State.readInHoldup page offset s).pins = s.pins ∧ (State.readInHoldup page offset s).control = s.control ∧
    (State.readInHoldup page offset s).groups = s.groups ∧ (State.readInHoldup page offset s).lines = s.lines ∧
    (State.readInHoldup page offset s).journal = s.journal ∧ (State.readInHoldup page offset s).cursor = s.cursor ∧
    (State.readInHoldup page offset s).port = s.port ∧ (State.readInHoldup page offset s).device = s.device ∧
    (State.readInHoldup page offset s).outcomes = s.outcomes ∧ (State.readInHoldup page offset s).boot = s.boot ∧
    (State.readInHoldup page offset s).freeCount = s.freeCount ∧
    (State.readInHoldup page offset s).pending = s.pending := by
  unfold State.readInHoldup
  (repeat' split) <;> simp

@[simp] theorem State.decideRead_frame (page : Nat) (offset : Nat) (s : State) :
    (State.decideRead page offset s).pins = s.pins ∧ (State.decideRead page offset s).groups = s.groups ∧
    (State.decideRead page offset s).lines = s.lines ∧ (State.decideRead page offset s).journal = s.journal ∧
    (State.decideRead page offset s).cursor = s.cursor ∧ (State.decideRead page offset s).device = s.device ∧
    (State.decideRead page offset s).outcomes = s.outcomes ∧ (State.decideRead page offset s).boot = s.boot ∧
    (State.decideRead page offset s).freeCount = s.freeCount ∧ (State.decideRead page offset s).pending = s.pending := by
  unfold State.decideRead
  (repeat' split) <;> simp

theorem State.onUcsAssertion_frame (s : State) (t : State) (h : State.onUcsAssertion s = some t) :
    t.pins = s.pins ∧ t.groups = s.groups ∧ t.lines = s.lines ∧ t.journal = s.journal ∧ t.cursor = s.cursor ∧
    t.device = s.device ∧ t.outcomes = s.outcomes ∧ t.link = s.link ∧ t.boot = s.boot ∧ t.freeCount = s.freeCount ∧
    t.pending = s.pending := by
  unfold State.onUcsAssertion at h
  split at h <;> cases h <;> simp

theorem State.onUcsReleaseWithoutStrobe_frame (s : State) (t : State) (h : State.onUcsReleaseWithoutStrobe s = some t) :
    t.pins = s.pins ∧ t.control = s.control ∧ t.groups = s.groups ∧ t.lines = s.lines ∧ t.journal = s.journal ∧
    t.cursor = s.cursor ∧ t.port = s.port ∧ t.device = s.device ∧ t.outcomes = s.outcomes ∧ t.link = s.link ∧
    t.boot = s.boot ∧ t.freeCount = s.freeCount ∧ t.pending = s.pending := by
  unfold State.onUcsReleaseWithoutStrobe at h
  (repeat' split at h) <;> cases h <;> simp

theorem State.expireHold_frame (abandoned : Bool) (s : State) (t : State) (h : State.expireHold abandoned s = some t) :
    t.pins = s.pins ∧ t.control = s.control ∧ t.journal = s.journal ∧ t.cursor = s.cursor ∧ t.port = s.port ∧
    t.device = s.device ∧ t.boot = s.boot ∧ t.freeCount = s.freeCount ∧ t.pending = s.pending := by
  unfold State.expireHold at h
  (repeat' split at h) <;> cases h <;> simp

theorem State.onWakeTimerExpiry_frame (s : State) (t : State) (h : State.onWakeTimerExpiry s = some t) :
    t.pins = s.pins ∧ t.control = s.control ∧ t.upstream = s.upstream ∧ t.groups = s.groups ∧ t.lines = s.lines ∧
    t.journal = s.journal ∧ t.cursor = s.cursor ∧ t.device = s.device ∧ t.monitor = s.monitor ∧
    t.outcomes = s.outcomes ∧ t.link = s.link ∧ t.freeCount = s.freeCount ∧ t.pending = s.pending := by
  unfold State.onWakeTimerExpiry at h
  (repeat' split at h) <;> cases h <;> simp

@[simp] theorem State.stopOpTimer_frame (s : State) :
    (State.stopOpTimer s).pins = s.pins ∧ (State.stopOpTimer s).control = s.control ∧
    (State.stopOpTimer s).upstream = s.upstream ∧ (State.stopOpTimer s).groups = s.groups ∧
    (State.stopOpTimer s).lines = s.lines ∧ (State.stopOpTimer s).journal = s.journal ∧
    (State.stopOpTimer s).cursor = s.cursor ∧ (State.stopOpTimer s).device = s.device ∧
    (State.stopOpTimer s).monitor = s.monitor ∧ (State.stopOpTimer s).outcomes = s.outcomes ∧
    (State.stopOpTimer s).link = s.link ∧ (State.stopOpTimer s).boot = s.boot ∧
    (State.stopOpTimer s).freeCount = s.freeCount ∧ (State.stopOpTimer s).pending = s.pending := by
  and_intros <;> rfl

theorem State.onReadyCheckPass_frame (failed : Bool) (s : State) (t : State) (h : State.onReadyCheckPass failed s = some t) :
    t.pins = s.pins ∧ t.control = s.control ∧ t.upstream = s.upstream ∧ t.groups = s.groups ∧ t.lines = s.lines ∧
    t.journal = s.journal ∧ t.cursor = s.cursor ∧ t.monitor = s.monitor ∧ t.outcomes = s.outcomes ∧ t.link = s.link ∧
    t.boot = s.boot ∧ t.pending = s.pending := by
  unfold State.onReadyCheckPass at h
  (repeat' split at h) <;> cases h <;> simp

theorem State.onPageReadEnd_frame (s : State) (t : State) (h : State.onPageReadEnd s = some t) :
    t.pins = s.pins ∧ t.device = s.device ∧ t.freeCount = s.freeCount ∧ t.pending = s.pending := by
  unfold State.onPageReadEnd at h
  (repeat' split at h) <;> cases h <;> simp

theorem State.onProgramAttemptEnd_frame (failed : Bool) (s : State) (t : State) (h : State.onProgramAttemptEnd failed s = some t) :
    t.pins = s.pins ∧ t.pending = s.pending := by
  unfold State.onProgramAttemptEnd at h
  (repeat' split at h) <;> cases h <;> simp

@[simp] theorem State.overrun_frame (op : Operation) (s : State) :
    (State.overrun op s).pins = s.pins ∧ (State.overrun op s).control = s.control ∧
    (State.overrun op s).upstream = s.upstream ∧ (State.overrun op s).groups = s.groups ∧
    (State.overrun op s).lines = s.lines ∧ (State.overrun op s).journal = s.journal ∧
    (State.overrun op s).cursor = s.cursor ∧ (State.overrun op s).port = s.port ∧
    (State.overrun op s).monitor = s.monitor ∧ (State.overrun op s).outcomes = s.outcomes ∧
    (State.overrun op s).link = s.link ∧ (State.overrun op s).boot = s.boot ∧
    (State.overrun op s).freeCount = s.freeCount ∧ (State.overrun op s).pending = s.pending := by
  unfold State.overrun
  split <;> simp

theorem State.onOperationTimerExpiry_frame (s : State) (t : State) (h : State.onOperationTimerExpiry s = some t) :
    t.pins = s.pins ∧ t.freeCount = s.freeCount ∧ t.pending = s.pending := by
  unfold State.onOperationTimerExpiry at h
  (repeat' split at h) <;> cases h <;> simp

@[simp] theorem State.respond_frame (status : Status) (data : List Byte) (s : State) :
    (State.respond status data s).pins = s.pins ∧ (State.respond status data s).control = s.control ∧
    (State.respond status data s).upstream = s.upstream ∧ (State.respond status data s).groups = s.groups ∧
    (State.respond status data s).lines = s.lines ∧ (State.respond status data s).journal = s.journal ∧
    (State.respond status data s).cursor = s.cursor ∧ (State.respond status data s).port = s.port ∧
    (State.respond status data s).device = s.device ∧ (State.respond status data s).monitor = s.monitor ∧
    (State.respond status data s).outcomes = s.outcomes ∧ (State.respond status data s).boot = s.boot ∧
    (State.respond status data s).freeCount = s.freeCount ∧ (State.respond status data s).pending = s.pending := by
  and_intros <;> rfl

@[simp] theorem State.wakeFor_frame (bytes : List Byte) (s : State) :
    (State.wakeFor bytes s).pins = s.pins ∧ (State.wakeFor bytes s).upstream = s.upstream ∧
    (State.wakeFor bytes s).groups = s.groups ∧ (State.wakeFor bytes s).lines = s.lines ∧
    (State.wakeFor bytes s).journal = s.journal ∧ (State.wakeFor bytes s).cursor = s.cursor ∧
    (State.wakeFor bytes s).device = s.device ∧ (State.wakeFor bytes s).outcomes = s.outcomes ∧
    (State.wakeFor bytes s).link = s.link ∧ (State.wakeFor bytes s).boot = s.boot ∧
    (State.wakeFor bytes s).freeCount = s.freeCount ∧ (State.wakeFor bytes s).pending = s.pending := by
  unfold State.wakeFor
  (repeat' split) <;> simp

@[simp] theorem State.takeCommand_frame (bytes : List Byte) (s : State) :
    (State.takeCommand bytes s).pins = s.pins ∧ (State.takeCommand bytes s).upstream = s.upstream ∧
    (State.takeCommand bytes s).groups = s.groups ∧ (State.takeCommand bytes s).lines = s.lines ∧
    (State.takeCommand bytes s).journal = s.journal ∧ (State.takeCommand bytes s).cursor = s.cursor ∧
    (State.takeCommand bytes s).device = s.device ∧ (State.takeCommand bytes s).outcomes = s.outcomes ∧
    (State.takeCommand bytes s).boot = s.boot ∧ (State.takeCommand bytes s).freeCount = s.freeCount ∧
    (State.takeCommand bytes s).pending = s.pending := by
  unfold State.takeCommand
  dsimp only
  split <;> simp

theorem State.onLinkWriteTransactionEnd_frame (address : LinkAddress) (bytes : List Byte) (s : State) (t : State) (h : State.onLinkWriteTransactionEnd address bytes s = some t) :
    t.pins = s.pins ∧ t.upstream = s.upstream ∧ t.groups = s.groups ∧ t.lines = s.lines ∧ t.journal = s.journal ∧
    t.cursor = s.cursor ∧ t.device = s.device ∧ t.outcomes = s.outcomes ∧ t.boot = s.boot ∧
    t.freeCount = s.freeCount ∧ t.pending = s.pending := by
  unfold State.onLinkWriteTransactionEnd at h
  (repeat' split at h) <;> cases h <;> simp

theorem State.onLinkTransactionEnd_frame (address : LinkAddress) (s : State) (t : State) (h : State.onLinkTransactionEnd address s = some t) :
    t.pins = s.pins ∧ t.control = s.control ∧ t.upstream = s.upstream ∧ t.groups = s.groups ∧ t.lines = s.lines ∧
    t.journal = s.journal ∧ t.cursor = s.cursor ∧ t.port = s.port ∧ t.device = s.device ∧ t.outcomes = s.outcomes ∧
    t.link = s.link ∧ t.boot = s.boot ∧ t.freeCount = s.freeCount ∧ t.pending = s.pending := by
  unfold State.onLinkTransactionEnd at h
  split at h <;> cases h <;> simp

theorem State.beginDecision_frame (bytes : List Byte) (s : State) (t : State) (h : State.beginDecision bytes s = some t) :
    t.pins = s.pins ∧ t.upstream = s.upstream ∧ t.groups = s.groups ∧ t.lines = s.lines ∧ t.journal = s.journal ∧
    t.cursor = s.cursor ∧ t.device = s.device ∧ t.outcomes = s.outcomes ∧ t.boot = s.boot ∧
    t.freeCount = s.freeCount ∧ t.pending = s.pending := by
  unfold State.beginDecision at h
  (repeat' split at h) <;> cases h <;> simp

@[simp] theorem State.serveReport_frame (s : State) :
    (State.serveReport s).pins = s.pins ∧ (State.serveReport s).control = s.control ∧
    (State.serveReport s).upstream = s.upstream ∧ (State.serveReport s).groups = s.groups ∧
    (State.serveReport s).lines = s.lines ∧ (State.serveReport s).journal = s.journal ∧
    (State.serveReport s).cursor = s.cursor ∧ (State.serveReport s).port = s.port ∧
    (State.serveReport s).device = s.device ∧ (State.serveReport s).monitor = s.monitor ∧
    (State.serveReport s).outcomes = s.outcomes ∧ (State.serveReport s).boot = s.boot ∧
    (State.serveReport s).freeCount = s.freeCount ∧ (State.serveReport s).pending = s.pending := by
  and_intros <;> rfl

@[simp] theorem State.serveClear_frame (flagMask : Byte) (countersOption : Byte) (s : State) :
    (State.serveClear flagMask countersOption s).pins = s.pins ∧
    (State.serveClear flagMask countersOption s).control = s.control ∧
    (State.serveClear flagMask countersOption s).upstream = s.upstream ∧
    (State.serveClear flagMask countersOption s).groups = s.groups ∧
    (State.serveClear flagMask countersOption s).lines = s.lines ∧
    (State.serveClear flagMask countersOption s).journal = s.journal ∧
    (State.serveClear flagMask countersOption s).cursor = s.cursor ∧
    (State.serveClear flagMask countersOption s).port = s.port ∧
    (State.serveClear flagMask countersOption s).device = s.device ∧
    (State.serveClear flagMask countersOption s).monitor = s.monitor ∧
    (State.serveClear flagMask countersOption s).outcomes = s.outcomes ∧
    (State.serveClear flagMask countersOption s).boot = s.boot ∧
    (State.serveClear flagMask countersOption s).freeCount = s.freeCount ∧
    (State.serveClear flagMask countersOption s).pending = s.pending := by
  unfold State.serveClear
  split <;> simp

@[simp] theorem State.serveSeal_frame (s : State) :
    (State.serveSeal s).pins = s.pins ∧ (State.serveSeal s).control = s.control ∧
    (State.serveSeal s).upstream = s.upstream ∧ (State.serveSeal s).lines = s.lines ∧
    (State.serveSeal s).journal = s.journal ∧ (State.serveSeal s).cursor = s.cursor ∧
    (State.serveSeal s).port = s.port ∧ (State.serveSeal s).device = s.device ∧
    (State.serveSeal s).monitor = s.monitor ∧ (State.serveSeal s).outcomes = s.outcomes ∧
    (State.serveSeal s).boot = s.boot ∧ (State.serveSeal s).freeCount = s.freeCount ∧
    (State.serveSeal s).pending = s.pending := by
  unfold State.serveSeal
  split <;> simp

@[simp] theorem State.serveResume_frame (taken : Taken) (s : State) :
    (State.serveResume taken s).pins = s.pins ∧ (State.serveResume taken s).upstream = s.upstream ∧
    (State.serveResume taken s).groups = s.groups ∧ (State.serveResume taken s).lines = s.lines ∧
    (State.serveResume taken s).journal = s.journal ∧ (State.serveResume taken s).cursor = s.cursor ∧
    (State.serveResume taken s).port = s.port ∧ (State.serveResume taken s).device = s.device ∧
    (State.serveResume taken s).monitor = s.monitor ∧ (State.serveResume taken s).outcomes = s.outcomes ∧
    (State.serveResume taken s).boot = s.boot ∧ (State.serveResume taken s).freeCount = s.freeCount ∧
    (State.serveResume taken s).pending = s.pending := by
  unfold State.serveResume
  split <;> simp

@[simp] theorem State.beginDrain_frame (drain : Drain) (s : State) :
    (State.beginDrain drain s).pins = s.pins ∧ (State.beginDrain drain s).upstream = s.upstream ∧
    (State.beginDrain drain s).lines = s.lines ∧ (State.beginDrain drain s).journal = s.journal ∧
    (State.beginDrain drain s).cursor = s.cursor ∧ (State.beginDrain drain s).port = s.port ∧
    (State.beginDrain drain s).device = s.device ∧ (State.beginDrain drain s).outcomes = s.outcomes ∧
    (State.beginDrain drain s).boot = s.boot ∧ (State.beginDrain drain s).freeCount = s.freeCount ∧
    (State.beginDrain drain s).pending = s.pending := by
  unfold State.beginDrain
  split <;> simp

@[simp] theorem State.serveRestart_frame (taken : Taken) (s : State) :
    (State.serveRestart taken s).pins = s.pins ∧ (State.serveRestart taken s).device = s.device ∧
    (State.serveRestart taken s).freeCount = s.freeCount ∧ (State.serveRestart taken s).pending = s.pending := by
  unfold State.serveRestart
  split <;> simp

@[simp] theorem State.serveStore_frame (fields : List Byte) (s : State) :
    (State.serveStore fields s).pins = s.pins ∧ (State.serveStore fields s).upstream = s.upstream ∧
    (State.serveStore fields s).lines = s.lines ∧ (State.serveStore fields s).journal = s.journal ∧
    (State.serveStore fields s).cursor = s.cursor ∧ (State.serveStore fields s).port = s.port ∧
    (State.serveStore fields s).device = s.device ∧ (State.serveStore fields s).outcomes = s.outcomes ∧
    (State.serveStore fields s).boot = s.boot ∧ (State.serveStore fields s).freeCount = s.freeCount ∧
    (State.serveStore fields s).pending = s.pending := by
  unfold State.serveStore
  (repeat' split) <;> simp

@[simp] theorem State.serveReadConfig_frame (s : State) :
    (State.serveReadConfig s).pins = s.pins ∧ (State.serveReadConfig s).control = s.control ∧
    (State.serveReadConfig s).upstream = s.upstream ∧ (State.serveReadConfig s).groups = s.groups ∧
    (State.serveReadConfig s).lines = s.lines ∧ (State.serveReadConfig s).journal = s.journal ∧
    (State.serveReadConfig s).cursor = s.cursor ∧ (State.serveReadConfig s).port = s.port ∧
    (State.serveReadConfig s).device = s.device ∧ (State.serveReadConfig s).monitor = s.monitor ∧
    (State.serveReadConfig s).outcomes = s.outcomes ∧ (State.serveReadConfig s).boot = s.boot ∧
    (State.serveReadConfig s).freeCount = s.freeCount ∧ (State.serveReadConfig s).pending = s.pending := by
  unfold State.serveReadConfig
  split <;> simp

end Sys2Proof.Machine
end

