-- ==== Sys2Proof/Laws/Memory.lean ====
section
/-! SUPPORT. Every operation over the array's memory keeps its canonical form, and what a program leaves in a page. -/

namespace Sys2Proof.Machine

theorem Memory.cellsFrom_bounds (bytes : List Byte) (address : Nat) :
    ∀ c ∈ Memory.cellsFrom address bytes,
      c.2 ≠ Config.blankByte ∧ address ≤ c.1 ∧ c.1 < address + bytes.length := by
  induction bytes generalizing address with
  | nil => simp [Memory.cellsFrom]
  | cons b rest ih =>
    intro c hc
    unfold Memory.cellsFrom at hc
    split at hc
    · obtain ⟨h1, h2, h3⟩ := ih (address + 1) c hc
      exact ⟨h1, by omega, by simp only [List.length_cons]; omega⟩
    · rcases List.mem_cons.mp hc with rfl | hc
      · exact ⟨by assumption, by simp, by simp⟩
      · obtain ⟨h1, h2, h3⟩ := ih (address + 1) c hc
        exact ⟨h1, by omega, by simp only [List.length_cons]; omega⟩

theorem Memory.cellsFrom_rising (bytes : List Byte) (address : Nat) :
    (Memory.cellsFrom address bytes).Pairwise (fun a b => a.1 < b.1) := by
  induction bytes generalizing address with
  | nil => simp [Memory.cellsFrom]
  | cons b rest ih =>
    unfold Memory.cellsFrom
    split
    · exact ih (address + 1)
    · refine List.pairwise_cons.mpr ⟨fun c hc => ?_, ih (address + 1)⟩
      have := (Memory.cellsFrom_bounds rest (address + 1) c hc).2.1
      change address < c.1
      omega

/-- Taking a page out of the list keeps the canonical form. -/
theorem Memory.erasePage_wf (m : Memory) (page : Nat) (h : Memory.wf m) : Memory.wf (Memory.erasePage m page) :=
  ⟨h.1.filter _, fun c hc => h.2 c (List.mem_of_mem_filter hc)⟩

/-- Replacing the bytes of a page that exists keeps the canonical form. -/
theorem Memory.setPage_wf (m : Memory) (page : Nat) (data : PageBytes) (hp : page < Config.arrayPages)
    (h : Memory.wf m) : Memory.wf (Memory.setPage m page data) := by
  have hlen : (data.take Config.pageSize).length ≤ 64 := by simp [Config.pageSize]
  have hb := Memory.cellsFrom_bounds (data.take Config.pageSize) (page * Config.pageSize)
  simp only [Config.pageSize, Config.arrayPages] at *
  unfold Memory.setPage
  simp only [Config.pageSize]
  refine ⟨?_, ?_⟩
  · refine List.pairwise_append.mpr ⟨List.pairwise_append.mpr ⟨h.1.filter _, ?_, ?_⟩, h.1.filter _, ?_⟩
    · exact Memory.cellsFrom_rising _ _
    · intro a ha b hb'
      have h1 := hb b hb'
      have h2 : a.1 / 64 < page := of_decide_eq_true (List.mem_filter.mp ha).2
      omega
    · intro a ha b hb'
      have h2 : page < b.1 / 64 := of_decide_eq_true (List.mem_filter.mp hb').2
      rcases List.mem_append.mp ha with ha | ha
      · have h1 : a.1 / 64 < page := of_decide_eq_true (List.mem_filter.mp ha).2
        omega
      · have h1 := hb a ha
        omega
  · intro c hc
    rcases List.mem_append.mp hc with hc | hc
    · rcases List.mem_append.mp hc with hc | hc
      · exact h.2 c (List.mem_of_mem_filter hc)
      · have h1 := hb c hc
        refine ⟨h1.1, ?_⟩
        simp only [Config.arrayPages, Config.pageSize]
        omega
    · exact h.2 c (List.mem_of_mem_filter hc)

/-- A cell of a memory in which a page was replaced is a cell of before or lies in that page. -/
theorem Memory.mem_setPage {m : Memory} {page : Nat} {data : PageBytes} {c : Host.Cell}
    (hc : c ∈ Memory.setPage m page data) : c ∈ m ∨ c.1 / Config.pageSize = page := by
  have hb := Memory.cellsFrom_bounds (data.take Config.pageSize) (page * Config.pageSize)
  have hlen : (data.take Config.pageSize).length ≤ 64 := by simp [Config.pageSize]
  unfold Memory.setPage at hc
  rcases List.mem_append.mp hc with hc | hc
  · rcases List.mem_append.mp hc with hc | hc
    · exact Or.inl (List.mem_of_mem_filter hc)
    · right
      have h1 := hb c hc
      simp only [Config.pageSize] at *
      omega
  · exact Or.inl (List.mem_of_mem_filter hc)

/-- A passed program keeps the device's memory canonical. -/
theorem Device.storePage_wf (d : Device) (page : Nat) (data : PageBytes) (h : d.wf) : (d.storePage page data).wf := by
  unfold Device.storePage
  split
  · rename_i hp
    refine ⟨Memory.setPage_wf d.cells page data hp h.1, h.2.1.filter _, ?_⟩
    intro u hu
    have hu' := List.mem_filter.mp hu
    have hne : u.1 ≠ page := by simpa using hu'.2
    refine ⟨(h.2.2 u hu'.1).1, fun c hc => ?_⟩
    rcases Memory.mem_setPage hc with hc | hc
    · exact (h.2.2 u hu'.1).2 c hc
    · rw [hc]; exact fun e => hne e.symm
  · exact h

/-- A page with undefined bytes keeps the device's memory canonical. -/
theorem Device.ruinPage_wf (d : Device) (page index : Nat) (h : d.wf) : (d.ruinPage page index).wf := by
  unfold Device.ruinPage
  split
  · rename_i hp
    refine ⟨Memory.erasePage_wf d.cells page h.1, ?_, ?_⟩
    · refine List.pairwise_append.mpr ⟨h.2.1.filter _, ?_, ?_⟩
      · refine List.pairwise_cons.mpr ⟨fun b hb => ?_, h.2.1.filter _⟩
        simpa using (List.mem_filter.mp hb).2
      · intro a ha b hb
        have h1 : a.1 < page := of_decide_eq_true (List.mem_filter.mp ha).2
        rcases List.mem_cons.mp hb with rfl | hb
        · exact h1
        · have h2 : page < b.1 := of_decide_eq_true (List.mem_filter.mp hb).2
          omega
    · intro u hu
      have hcells : ∀ c ∈ Memory.erasePage d.cells page, c ∈ d.cells ∧ c.1 / Config.pageSize ≠ page := by
        intro c hc
        have := List.mem_filter.mp hc
        exact ⟨this.1, by simpa using this.2⟩
      rcases List.mem_append.mp hu with hu | hu
      · have hu' := List.mem_of_mem_filter hu
        exact ⟨(h.2.2 u hu').1, fun c hc => (h.2.2 u hu').2 c (hcells c hc).1⟩
      · rcases List.mem_cons.mp hu with rfl | hu
        · exact ⟨hp, fun c hc => (hcells c hc).2⟩
        · have hu' := List.mem_of_mem_filter hu
          exact ⟨(h.2.2 u hu').1, fun c hc => (h.2.2 u hu').2 c (hcells c hc).1⟩
  · exact h

/-- The canonical form does not look at the rest of the device. -/
theorem Device.wf_of_same {d e : Device} (hc : e.cells = d.cells) (hu : e.undefinedPages = d.undefinedPages)
    (h : d.wf) : e.wf := by
  unfold Device.wf
  rw [hc, hu]
  exact h

/-- The end of a program in the device keeps its memory canonical. -/
theorem State.endDeviceProgram_wf (failed : Bool) (s : State) (h : s.device.wf) :
    (s.endDeviceProgram failed).device.wf := by
  unfold State.endDeviceProgram
  split
  · exact h
  · dsimp only
    split
    · exact Device.ruinPage_wf _ _ _ (Device.wf_of_same (d := s.device) rfl rfl h)
    · exact Device.storePage_wf _ _ _ (Device.wf_of_same (d := s.device) rfl rfl h)

/-- The loss of the device's supply keeps its memory canonical. -/
theorem State.unpowerDevice_wf (s : State) (h : s.device.wf) : s.unpowerDevice.device.wf := by
  unfold State.unpowerDevice
  split
  · exact Device.wf_of_same (d := s.device) rfl rfl h
  · exact Device.ruinPage_wf _ _ _ (Device.wf_of_same (d := s.device) rfl rfl h)

/-- The memory at reset is canonical. -/
theorem State.reset_memory : State.reset.MemoryLaw := by
  refine ⟨⟨List.Pairwise.nil, fun c hc => ?_⟩, List.Pairwise.nil, fun u hu => ?_⟩
  · exact absurd hc List.not_mem_nil
  · exact absurd hu List.not_mem_nil

end Sys2Proof.Machine
end

