-- ==== Sys2Proof/Laws/Settle.lean ====
section
/-! SUPPORT. What follows by itself: the cases of one micro-step, induction over settling, and what a command can do. -/

namespace Sys2Proof.Machine

/-- A micro-step is a step of one of the parts. -/
theorem State.micro_cases {s t : State} (h : s.micro = some t) :
    s.edgeStep = some t ∨ s.lineStep = some t ∨ s.claimStep = some t ∨ s.operationStep = some t ∨
      s.completionStep = some t ∨ s.turnStep = some t ∨ s.applyStep = some t ∨ s.arbiterStep = some t ∨
      s.drainStep = some t ∨ s.downStep = some t ∨ s.dozeStep = some t := by
  unfold State.micro at h
  repeat' split at h
  all_goals (try cases h)
  all_goals simp_all

/-- Where nothing has anything to do, settling changes nothing. -/
theorem State.settle_of_rest {s : State} (h : s.micro = none) : s.settle = s := by
  unfold State.settle
  cases hn : s.settleFuel with
  | zero => rfl
  | succ n => simp [State.settleFor, h]

/-- A law that every micro-step keeps is kept by settling for any number of micro-steps. -/
theorem State.settleFor_keeps {P : State → Prop} (step : ∀ s t, P s → s.micro = some t → P t) (n : Nat) (s : State)
    (h : P s) : P (State.settleFor n s) := by
  induction n generalizing s with
  | zero => exact h
  | succ n ih =>
    unfold State.settleFor
    split
    · exact h
    · rename_i t ht
      exact ih t (step s t h ht)

/-- A law that every micro-step keeps is kept by settling. -/
theorem State.settle_keeps {P : State → Prop} (step : ∀ s t, P s → s.micro = some t → P t) (s : State) (h : P s) :
    P s.settle :=
  State.settleFor_keeps step s.settleFuel s h

/-- The arbiter changes the array controller, and the held read's mark. -/
theorem State.arbiterStep_cases {s t : State} (h : s.arbiterStep = some t) :
    s.arrayFree = true ∧
      ((∃ q, s.readRequest = some q ∧ t = s.grantRead q) ∨ (∃ q, s.journalRequest = some q ∧ t = s.grantJournal q) ∨
        (∃ q, s.applyRequest = some q ∧ t = s.grantApply q) ∨
        (∃ q, s.startUpRequest = some q ∧ t = s.grant .startUp q) ∨
        (∃ q, s.linkRequest = some q ∧ t = s.grant .link q)) := by
  unfold State.arbiterStep at h
  split at h
  · refine ⟨by assumption, ?_⟩
    split at h
    · split at h
      · cases h
      · cases h; exact Or.inl ⟨_, by assumption, rfl⟩
    · split at h
      · cases h
        right; left
        rename_i q hq
        refine ⟨q, ?_, rfl⟩
        split at hq
        · cases hq
        · exact hq
      · split at h
        · cases h; right; right; left; exact ⟨_, by assumption, rfl⟩
        · split at h
          · cases h; right; right; right; left; exact ⟨_, by assumption, rfl⟩
          · obtain ⟨q, hq, rfl⟩ := Option.map_eq_some_iff.mp h
            right; right; right; right; exact ⟨q, hq, rfl⟩
  · cases h

/-- What the arbiter leaves unchanged. -/
theorem State.arbiterStep_frame {s t : State} (h : s.arbiterStep = some t) :
    t.pins = s.pins ∧ t.control = s.control ∧ t.groups = s.groups ∧ t.lines = s.lines ∧ t.journal = s.journal ∧
      t.cursor = s.cursor ∧ t.device = s.device ∧ t.monitor = s.monitor ∧ t.outcomes = s.outcomes ∧
      t.link = s.link ∧ t.boot = s.boot ∧ t.freeCount = s.freeCount ∧ t.pending = s.pending := by
  rcases (State.arbiterStep_cases h).2 with ⟨q, _, rfl⟩ | ⟨q, _, rfl⟩ | ⟨q, _, rfl⟩ | ⟨q, _, rfl⟩ | ⟨q, _, rfl⟩ <;> simp

/-- A micro-step leaves the pins and the queue of commands unchanged. -/
theorem State.micro_frame {s t : State} (h : s.micro = some t) : t.pins = s.pins ∧ t.pending = s.pending := by
  rcases State.micro_cases h with h | h | h | h | h | h | h | h | h | h | h
  · have := State.edgeStep_frame s t h; simp_all
  · have := State.lineStep_frame s t h; simp_all
  · have := State.claimStep_frame s t h; simp_all
  · have := State.operationStep_frame s t h; simp_all
  · have := State.completionStep_frame s t h; simp_all
  · have := State.turnStep_frame s t h; simp_all
  · have := State.applyStep_frame s t h; simp_all
  · have := State.arbiterStep_frame h; simp_all
  · have := State.drainStep_frame s t h; simp_all
  · have := State.downStep_frame s t h; simp_all
  · have := State.dozeStep_frame s t h; simp_all

/-- Settling leaves the pins and the queue of commands unchanged. -/
@[simp] theorem State.settle_frame (s : State) : s.settle.pins = s.pins ∧ s.settle.pending = s.pending :=
  State.settle_keeps (P := fun t => t.pins = s.pins ∧ t.pending = s.pending)
    (fun a b ha hab => by
      have := State.micro_frame hab
      exact ⟨this.1.trans ha.1, this.2.trans ha.2⟩)
    s ⟨rfl, rfl⟩

/-- A command with an effect is carried out and settles. -/
theorem afterEvent_some {effect : Option State} {s t : State} (h : effect = some t) :
    afterEvent effect s = .next t.settle := by
  subst h; rfl

/-- A command whose event cannot happen changes nothing (log 1). -/
theorem afterEvent_none {effect : Option State} {s : State} (h : effect = none) : afterEvent effect s = .next s := by
  subst h; rfl

/-- A command completes with its own effect, from what its meaning is. -/
theorem Completes.of_effect {c : Instr} {effect : Option State} {s t : State} (he : exec c s = afterEvent effect s)
    (h : effect = some t) : Completes c s t := by
  refine ⟨he.trans (afterEvent_some h), fun hm => ?_⟩
  rw [he, afterEvent_some h, State.settle_of_rest hm]

end Sys2Proof.Machine
end

