-- ==== Sys2Proof/Laws/Effects.lean ====
section
/-! SUPPORT. What the operations that many commands share do, said once in the words of Safety.lean: an activity event,
the beginning of a start-up, the array's loss of supply, the end of a program in the device, the entry into DOWN, the
seal of the ambient group. -/

namespace Sys2Proof.Machine

/-! ### Activity and the seal -/

/-- An activity event changes the doze idle timer alone (R141). -/
theorem State.activity_eq (s : State) : s.activity = { s with monitor := s.activeMonitor } := by
  unfold State.activity State.activeMonitor State.startDozeTimer State.inMode
  by_cases h1 : s.control.mode = some .running <;> by_cases h2 : s.config.dozeIdle = 0 <;> simp [h1, h2]

/-- With no loose write in progress the ambient group is sealed and no seal waits (R20, R21). -/
theorem State.sealAmbient_eq (s : State) (h : s.looseWriteInProgress = false) :
    s.sealAmbient = { s with groups := s.groups.ambientSealed s.gathering } := by
  unfold State.sealAmbient Groups.ambientSealed
  cases hg : s.gathering <;> simp [h, State.setGroupState]

/-- Where no entry belongs to an owner, giving its entries another owner changes nothing. -/
theorem relink_of_none (queue : List OutcomeEntry) (owner new : OutcomeOwner) (h : ∀ e ∈ queue, e.owner ≠ owner) :
    (queue.map fun e => if e.owner = owner then { e with owner := new } else e) = queue := by
  induction queue with
  | nil => rfl
  | cons a l ih => simp_all

/-- A completed access: its result, and an activity event (R115, R141). -/
theorem State.completeAccess_eq (result : AccessResult) (s : State) :
    s.completeAccess result = { s with upstream := s.upstream.ended result, monitor := s.activeMonitor } := by
  unfold State.completeAccess
  rw [State.activity_eq]
  rfl

/-- A refused write: REFUSED, the counter, and the end of the access (R119). -/
theorem State.refuseWrite_eq (reason : RefusalReason) (s : State) :
    s.refuseWrite reason =
      { s with
        upstream := s.upstream.ended (.refused reason), link := s.link.refusal, monitor := s.activeMonitor } := by
  unfold State.refuseWrite
  rw [State.completeAccess_eq]
  rfl

/-- A staged write: the counter, and the end of the access (R29, R30). -/
theorem State.stageWrite_eq (s : State) :
    s.stageWrite =
      { s with upstream := s.upstream.ended .staged, link := s.link.staged, monitor := s.activeMonitor } := by
  unfold State.stageWrite
  rw [State.completeAccess_eq]
  rfl

/-- An unserved read: UNSERVED, the counter, and the fill value (R124). -/
theorem State.leaveUnserved_eq (s : State) :
    s.leaveUnserved =
      { s with
        upstream := s.upstream.ended (.byte 0xFF#8), link := s.link.unserved, monitor := s.activeMonitor } := by
  unfold State.leaveUnserved State.serveRead
  rw [State.completeAccess_eq]
  rfl

/-! ### A start-up begins -/

/-- In STARTING, with the array not ON and nothing in flight, nothing happens by itself. -/
theorem State.rest_of_starting {s : State} (hm : s.control.mode = some .starting) (hp : s.port.power ≠ .on)
    (hi : s.port.inFlight = none) : s.micro = none := by
  simp [State.micro, State.edgeStep, State.lineStep, State.claimStep, State.operationStep, State.completionStep,
    State.turnStep, State.applyStep, State.arbiterStep, State.drainStep, State.downStep, State.dozeStep,
    State.takesEdges, State.awake, State.inMode, hm, hi, State.journalWorks, State.takesTurns, State.arrayFree,
    State.drained, hp]

/-- What holds of a part that is awake holds outside reset and DOWN. -/
theorem State.ite_awake {α : Type} (s : State) (a b : α) :
    (if s.awake then a else b) = if s.control.mode = none ∨ s.control.mode = some .down then b else a := by
  rcases h : s.control.mode with _ | _ | _ <;> simp [State.awake, State.inMode, h]

/-- What the beginning of a start-up does (R76, R77, R79 to R81, R115). -/
theorem State.beginStartUp_begins (cause : Cause) (storeResult : StoreResult) (s : State) :
    State.BeginsStartUp cause storeResult s (s.beginStartUp cause storeResult) := by
  unfold State.beginStartUp
  cases hs : s.monitor.settled <;>
  rcases ha : s.upstream.access with _ | ⟨e, _ | ⟨_, _, _, _⟩ | ⟨_, _, _⟩⟩ <;>
  constructor <;>
  cases cause <;>
  simp [State.startValues, State.ite_awake, State.completeEarly, ha, hs, State.beginWake, State.refuseWrite, State.countRefused,
    State.withFlags, State.withCounters, State.completeAccess, State.activity, State.inMode, State.countEarly,
    State.serveRead, Port.starting, Port.start, Upstream.start, Link.start, Cause.response, StartUpRecord.opened, bump,
    Counters.zero, EventFlags.clear, Config.startUpWakeTime, Config.fillByte, Config.counterMax, Response.nothing]

/-- Nothing follows at once from the beginning of a start-up. -/
theorem State.beginStartUp_rest (cause : Cause) (storeResult : StoreResult) (s : State) :
    (s.beginStartUp cause storeResult).micro = none := by
  have h := State.beginStartUp_begins cause storeResult s
  exact State.rest_of_starting (by rw [h.control]) (by rw [h.array]; simp) (by rw [h.array]; rfl)

/-- The answer of a command whose effect is a state from which nothing follows at once. -/
theorem exec_of_effect_rest {c : Instr} {effect : Option State} {s t : State} (he : exec c s = afterEvent effect s)
    (h : effect = some t) (hr : t.micro = none) : exec c s = .next t :=
  (Completes.of_effect he h).2 hr

/-! ### One page of the array changes -/

theorem find_below {l : List (Nat × Nat)} {p : Nat} (q : Nat) (h : q ≠ p) :
    (l.filter fun u => decide (u.1 < p)).find? (fun u => u.1 == q) =
      if q < p then l.find? (fun u => u.1 == q) else none := by
  induction l with
  | nil => simp
  | cons a l ih =>
    by_cases h1 : a.1 < p <;> by_cases h2 : a.1 = q <;>
      simp [List.filter_cons, h1, h2, List.find?_cons, ih] <;> grind

theorem find_above {l : List (Nat × Nat)} {p : Nat} (q : Nat) (h : q ≠ p) :
    (l.filter fun u => decide (p < u.1)).find? (fun u => u.1 == q) =
      if p < q then l.find? (fun u => u.1 == q) else none := by
  induction l with
  | nil => simp
  | cons a l ih =>
    by_cases h1 : p < a.1 <;> by_cases h2 : a.1 = q <;>
      simp [List.filter_cons, h1, h2, List.find?_cons, ih] <;> grind

/-- Cells that a filter keeps are found as before. -/
theorem find_kept (l : List Host.Cell) (keep : Host.Cell → Bool) (a : Nat) (h : ∀ c ∈ l, c.1 = a → keep c = true) :
    (l.filter keep).find? (fun c => c.1 == a) = l.find? (fun c => c.1 == a) := by
  induction l with
  | nil => rfl
  | cons x l ih =>
    have ih := ih fun c hc => h c (List.mem_cons_of_mem _ hc)
    have hx := h x List.mem_cons_self
    by_cases h1 : x.1 = a
    · simp [List.filter_cons, hx h1, h1]
    · by_cases h2 : keep x = true <;> simp [List.filter_cons, h1, h2, ih]

/-- Cells that a filter drops are not found. -/
theorem find_dropped (l : List Host.Cell) (keep : Host.Cell → Bool) (a : Nat) (h : ∀ c ∈ l, c.1 = a → keep c = false) :
    (l.filter keep).find? (fun c => c.1 == a) = none := by
  rw [List.find?_eq_none]
  intro c hc
  rw [List.mem_filter] at hc
  intro he
  have := h c hc.1 (by simpa using he)
  simp_all

/-- The cells of consecutive bytes give each of them back. -/
theorem Memory.read_cellsFrom (bytes : List Byte) (address k : Nat) :
    Memory.read (Memory.cellsFrom address bytes) (address + k) = bytes.getD k Config.blankByte := by
  induction bytes generalizing address k with
  | nil => simp [Memory.cellsFrom, Memory.read]
  | cons b rest ih =>
    cases k with
    | zero =>
      by_cases hb : b = Config.blankByte
      · have hnone : (Memory.cellsFrom (address + 1) rest).find? (fun c => c.1 == address) = none := by
          rw [List.find?_eq_none]
          intro c hc he
          have := Memory.cellsFrom_bounds rest (address + 1) c hc
          have : c.1 = address := by simpa using he
          omega
        simp [Memory.cellsFrom, hb, Memory.read, hnone]
      · simp [Memory.cellsFrom, hb, Memory.read]
    | succ k =>
      have hi := ih (address + 1) k
      rw [show address + 1 + k = address + (k + 1) by omega] at hi
      by_cases hb : b = Config.blankByte
      · simpa [Memory.cellsFrom, hb] using hi
      · have : ¬ address = address + (k + 1) := by omega
        simp only [Memory.cellsFrom, hb, if_false, Memory.read, List.getD_cons_succ] at hi ⊢
        rw [List.find?_cons_of_neg (by simp)]
        exact hi

/-- What is read after one page has been replaced: its new bytes there, the old bytes elsewhere. -/
theorem Memory.read_setPage (m : Memory) (p page offset : Nat) (data : PageBytes) (ho : offset < 64) :
    Memory.read (Memory.setPage m p data) (page * 64 + offset) =
      if p = page then data.getD offset Config.blankByte else Memory.read m (page * 64 + offset) := by
  have hdiv : (page * 64 + offset) / 64 = page := by omega
  have hmid : ∀ c ∈ Memory.cellsFrom (p * 64) (data.take 64), c.1 / 64 = p := by
    intro c hc
    have hb := Memory.cellsFrom_bounds _ _ c hc
    have hl : (data.take 64).length ≤ 64 := by simp
    omega
  change Memory.read
      (m.filter (fun c => decide (c.1 / 64 < p)) ++ Memory.cellsFrom (p * 64) (data.take 64) ++
        m.filter (fun c => decide (p < c.1 / 64))) (page * 64 + offset) = _
  by_cases h : p = page
  · subst h
    rw [if_pos rfl]
    have h1 := find_dropped m (fun c => decide (c.1 / 64 < p)) (p * 64 + offset)
      (fun c _ he => by rw [he, hdiv]; simp)
    have h2 := find_dropped m (fun c => decide (p < c.1 / 64)) (p * 64 + offset)
      (fun c _ he => by rw [he, hdiv]; simp)
    have h3 := Memory.read_cellsFrom (data.take 64) (p * 64) offset
    have h4 : (data.take 64).getD offset Config.blankByte = data.getD offset Config.blankByte := by
      simp [List.getD_eq_getElem?_getD, ho]
    rw [h4] at h3
    simp only [Memory.read, List.find?_append, h1, h2, Option.none_or, Option.or_none] at h3 ⊢
    exact h3
  · rw [if_neg h]
    have hmidnone : (Memory.cellsFrom (p * 64) (data.take 64)).find? (fun c => c.1 == page * 64 + offset) = none := by
      rw [List.find?_eq_none]
      intro c hc he
      have he : c.1 = page * 64 + offset := by simpa using he
      have := hmid c hc
      rw [he, hdiv] at this
      exact h this.symm
    rcases Nat.lt_or_gt_of_ne h with hl | hl
    · have h1 := find_dropped m (fun c => decide (c.1 / 64 < p)) (page * 64 + offset)
        (fun c _ he => by rw [he, hdiv]; simp; omega)
      have h2 := find_kept m (fun c => decide (p < c.1 / 64)) (page * 64 + offset)
        (fun c _ he => by rw [he, hdiv]; simpa using hl)
      simp only [Memory.read, List.find?_append, h1, h2, hmidnone, Option.none_or]
    · have h1 := find_kept m (fun c => decide (c.1 / 64 < p)) (page * 64 + offset)
        (fun c _ he => by rw [he, hdiv]; simpa using hl)
      have h2 := find_dropped m (fun c => decide (p < c.1 / 64)) (page * 64 + offset)
        (fun c _ he => by rw [he, hdiv]; simp; omega)
      simp only [Memory.read, List.find?_append, h1, h2, hmidnone, Option.or_none]

/-- What is read after a page's bytes have become undefined (R97, R107, log 4). -/
theorem Device.ruinPage_readByte (d : Device) (p index page offset : Nat) (hpage : page < Config.arrayPages)
    (ho : offset < 64) :
    (d.ruinPage p index).readByte page offset =
      if p = page then Config.freeByte index offset else d.readByte page offset := by
  by_cases hp : p < Config.arrayPages
  · simp only [Device.ruinPage, hp, if_true, Device.readByte]
    by_cases h : p = page
    · subst h
      have : (d.undefinedPages.filter fun u => decide (u.1 < p)).find? (fun u => u.1 == p) = none := by
        simp only [List.find?_eq_none, List.mem_filter]
        intro x hx
        have := of_decide_eq_true hx.2
        simp; omega
      simp [List.find?_append, this]
    · have hne : page ≠ p := fun e => h e.symm
      rw [List.find?_append, find_below _ hne, List.find?_cons_of_neg (by simpa using h), find_above _ hne]
      have hm : Memory.read (Memory.erasePage d.cells p) (page * 64 + offset) =
          Memory.read d.cells (page * 64 + offset) := by
        unfold Memory.read Memory.erasePage
        rw [find_kept _ _ _ (fun c _ he => by simp only [Config.pageSize]; rw [he]; simp; omega)]
      simp only [Config.pageSize] at *
      rw [hm, if_neg h]
      rcases Nat.lt_or_gt_of_ne hne with hl | hl
      · have : ¬ p < page := by omega
        simp [hl, this]
      · have : ¬ page < p := by omega
        simp [hl, this]
  · have : p ≠ page := by omega
    simp [Device.ruinPage, hp, this]

/-- What is read after a page has taken its bytes (R97). -/
theorem Device.storePage_readByte (d : Device) (p page offset : Nat) (data : PageBytes)
    (hpage : page < Config.arrayPages) (ho : offset < 64) :
    (d.storePage p data).readByte page offset =
      if p = page then data.getD offset Config.blankByte else d.readByte page offset := by
  by_cases hp : p < Config.arrayPages
  · simp only [Device.storePage, hp, if_true, Device.readByte, Config.pageSize]
    have hr := Memory.read_setPage d.cells p page offset data ho
    by_cases h : p = page
    · subst h
      have : (d.undefinedPages.filter fun u => u.1 != p).find? (fun u => u.1 == p) = none := by
        simp only [List.find?_eq_none, List.mem_filter]
        intro x hx
        simpa using hx.2
      rw [this]
      simpa using hr
    · have : (d.undefinedPages.filter fun u => u.1 != p).find? (fun u => u.1 == page) =
          d.undefinedPages.find? (fun u => u.1 == page) := by
        induction d.undefinedPages with
        | nil => rfl
        | cons a l ih =>
          by_cases h1 : a.1 = p <;> by_cases h2 : a.1 = page <;> simp_all
      rw [this, hr]
      simp [h]
  · have : p ≠ page := by omega
    simp [Device.storePage, hp, this]

/-- Which pages hold undefined bytes after one has come to (R97, R107). -/
theorem Device.ruinPage_isUndefined (d : Device) (p page index : Nat) (hpage : page < Config.arrayPages) :
    (d.ruinPage p index).isUndefined page = if p = page then true else d.isUndefined page := by
  by_cases hp : p < Config.arrayPages
  · simp only [Device.ruinPage, hp, if_true, Device.isUndefined]
    by_cases h : p = page
    · simp [h]
    · rw [Bool.eq_iff_iff]
      simp only [h, if_false, List.any_append, List.any_cons, Bool.or_eq_true, List.any_eq_true, List.mem_filter,
        decide_eq_true_eq, beq_iff_eq, false_or]
      constructor
      · rintro (⟨x, hx, rfl⟩ | ⟨x, hx, rfl⟩) <;> exact ⟨x, hx.1, rfl⟩
      · rintro ⟨x, hx, rfl⟩
        rcases Nat.lt_or_gt_of_ne h with hl | hl
        · exact Or.inr ⟨x, ⟨hx, hl⟩, rfl⟩
        · exact Or.inl ⟨x, ⟨hx, hl⟩, rfl⟩
  · have : p ≠ page := by omega
    simp [Device.ruinPage, hp, this]

/-- Which pages hold undefined bytes after a page has taken its bytes (R97). -/
theorem Device.storePage_isUndefined (d : Device) (p page : Nat) (data : PageBytes) (hpage : page < Config.arrayPages) :
    (d.storePage p data).isUndefined page = if p = page then false else d.isUndefined page := by
  by_cases hp : p < Config.arrayPages
  · simp only [Device.storePage, hp, if_true, Device.isUndefined]
    rw [Bool.eq_iff_iff]
    by_cases h : p = page
    · subst h
      simp
    · simp only [h, if_false, List.any_eq_true, List.mem_filter, beq_iff_eq, bne_iff_ne]
      constructor
      · rintro ⟨x, hx, rfl⟩
        exact ⟨x, hx.1, rfl⟩
      · rintro ⟨x, hx, rfl⟩
        exact ⟨x, ⟨hx, fun e => h e.symm⟩, rfl⟩
  · have : p ≠ page := by omega
    simp [Device.storePage, hp, this]

/-- What the end of a program in the device does (R97, R102). -/
theorem State.endDeviceProgram_ends (failed : Bool) (s : State) (p : DeviceProgram) (h : s.device.program = some p) :
    s.EndsDeviceProgram failed p (s.endDeviceProgram failed) := by
  have hc : (failed || p.overrun) = true ↔ (failed = true ∨ p.overrun = true) := Bool.or_eq_true_iff
  by_cases hf : (failed || p.overrun) = true
  · have he : s.endDeviceProgram failed =
        { s with
          device := ({ s.device with program := none, fail := failed }).ruinPage p.page s.freeCount
          freeCount := s.freeCount + 1 } := by
      simp only [State.endDeviceProgram, h, hf, if_true]
    constructor
    · intro page offset hp ho
      rw [he, if_pos (hc.1 hf)]
      exact Device.ruinPage_readByte _ _ _ _ _ hp ho
    · intro page hp
      rw [he, hf]
      exact Device.ruinPage_isUndefined _ _ _ _ hp
    · rw [he]
      simp only [Device.ruinPage]
      split <;> rfl
    · rw [he, if_pos (hc.1 hf)]
  · have he : s.endDeviceProgram failed =
        { s with device := ({ s.device with program := none, fail := failed }).storePage p.page p.data } := by
      simp only [State.endDeviceProgram, h, hf]
      rfl
    have hn : ¬ (failed = true ∨ p.overrun = true) := fun x => hf (hc.2 x)
    constructor
    · intro page offset hp ho
      rw [he, if_neg hn]
      exact Device.storePage_readByte _ _ _ _ _ hp ho
    · intro page hp
      rw [he, Bool.eq_false_iff.2 hf]
      exact Device.storePage_isUndefined _ _ _ _ hp
    · rw [he]
      simp only [Device.storePage]
      split <;> rfl
    · rw [he, if_neg hn]

/-! ### The array loses its supply; DOWN -/

/-- A loss of supply is one of the device and the count of free values alone. -/
theorem State.LosesArrayPower.congr {s s' t t' : State} (h : s.LosesArrayPower t) (hd : s'.device = s.device)
    (hf : s'.freeCount = s.freeCount) (hd' : t'.device = t.device) (hf' : t'.freeCount = t.freeCount) :
    s'.LosesArrayPower t' := by
  constructor
  · rw [hd']; exact h.program
  · rw [hd']; exact h.latch
  · rw [hd', hd]; exact h.rest
  · rw [hd', hd, hf]; exact h.bytes
  · rw [hf', hd, hf]; exact h.counted

/-- What the removal of the device's supply does (R97, R107). -/
theorem State.unpowerDevice_loses (s : State) : s.LosesArrayPower s.unpowerDevice := by
  have h1 : ∀ (d : Device) (p i : Nat), (d.ruinPage p i).program = d.program ∧ (d.ruinPage p i).latch = d.latch ∧
      (d.ruinPage p i).fail = d.fail ∧ (d.ruinPage p i).statusFaults = d.statusFaults := by
    intro d p i; unfold Device.ruinPage; split <;> simp
  cases h : s.device.program with
  | none => constructor <;> simp [State.unpowerDevice, h, Device.readByte]
  | some p =>
    constructor
    · simp [State.unpowerDevice, h, h1]
    · simp [State.unpowerDevice, h, h1]
    · simp [State.unpowerDevice, h, h1]
    · intro page offset hp ho
      simp only [State.unpowerDevice, h]
      rw [Device.ruinPage_readByte _ _ _ _ _ hp ho]
      rfl
    · simp [State.unpowerDevice, h]

/-- The same, from a state with the same device. -/
theorem State.unpowerDevice_loses_of_same (s x : State) (hd : x.device = s.device) (hf : x.freeCount = s.freeCount) :
    s.LosesArrayPower x.unpowerDevice :=
  (State.unpowerDevice_loses x).congr hd.symm hf.symm rfl rfl

/-- What reset takes from the array (R78, R107). -/
theorem State.volatileReset_loses (s : State) : s.LosesArrayPower s.volatileReset := by
  unfold State.volatileReset
  exact State.unpowerDevice_loses_of_same s _ rfl rfl

/-- How an access is cut off (R126, R128). -/
theorem Upstream.cutOff_result (s : State) : s.upstream.cutOff.result = s.cutOffResult := by
  unfold Upstream.cutOff State.cutOffResult
  rcases ha : s.upstream.access with _ | ⟨e, _ | ⟨_, _, _, _⟩ | ⟨_, _, _⟩⟩ <;> simp [AccessStage.cutOff, Config.fillByte]

/-- What the entry into DOWN does (R137). -/
theorem State.enterDown_enters (s : State) : s.EntersDown s.enterDown := by
  unfold State.enterDown
  constructor <;> simp [State.restartDebounce, State.powerOff, Port.abandoned, Port.start, Config.debounceTime]
  · generalize hx : State.unpowerDevice _ = x
    have : s.LosesArrayPower x := by rw [← hx]; exact State.unpowerDevice_loses_of_same s _ rfl rfl
    exact this.congr rfl rfl rfl rfl
  · unfold Upstream.cutOff State.cutOffResult
    rcases ha : s.upstream.access with _ | ⟨e, _ | ⟨_, _, _, _⟩ | ⟨_, _, _⟩⟩ <;>
      simp [AccessStage.cutOff, Config.fillByte]

/-- In DOWN, with the array not ON and nothing in flight, nothing happens by itself. -/
theorem State.rest_of_down {s : State} (hm : s.control.mode = some .down) (hp : s.port.power ≠ .on)
    (hi : s.port.inFlight = none) : s.micro = none := by
  simp [State.micro, State.edgeStep, State.lineStep, State.claimStep, State.operationStep, State.completionStep,
    State.turnStep, State.applyStep, State.arbiterStep, State.drainStep, State.downStep, State.dozeStep,
    State.takesEdges, State.awake, State.inMode, hm, hi, State.journalWorks, State.takesTurns, State.arrayFree,
    State.drained, hp]

/-- Nothing follows at once from the entry into DOWN. -/
theorem State.enterDown_rest (s : State) : s.enterDown.micro = none := by
  have h := s.enterDown_enters
  exact State.rest_of_down (by rw [h.control]) (by rw [h.port]; simp [Port.start]) (by rw [h.port]; rfl)

/-! ### A timeout, and the terms in which the engines' work is stated -/

/-- A program beyond its limit changes the device alone (R102). -/
theorem State.overrun_eq (s : State) (op : Operation) : s.overrun op = { s with device := s.deviceAfterTimeout op } := by
  unfold State.overrun State.deviceAfterTimeout Device.overrun
  split <;> rfl

/-- When the journal engine works on its record. -/
theorem State.journalWorks_iff (s : State) : s.journalWorks = true ↔ s.JournalMayWork := by
  simp [State.journalWorks, State.JournalMayWork, State.inMode, or_assoc, and_assoc]

/-- When a retry runs. -/
theorem State.retries_iff (s : State) (owner : RetryOwner) : s.retries owner = true ↔ s.RetryUnderWay owner := by
  simp [State.retries, State.RetryUnderWay, State.inMode, and_assoc]

/-- The seal that SEAL, RESTART and STORE ask for, in the words of Safety.lean (R169, R170). -/
theorem State.requestSeal_eq (s : State) : s.requestSeal = { s with groups := s.sealRequested } := by
  unfold State.requestSeal State.sealRequested State.looseWriteJoined
  rcases hg : s.gathering with _ | g
  · simp
  · by_cases hs : s.groups.sealWaits = true
    · simp [hs]
    · rcases ha : s.upstream.access with _ | ⟨_ | _, _ | ⟨_, _, _, _ | _ | _⟩ | ⟨_, _, _⟩⟩ <;>
        simp [hs, State.sealAmbient, Groups.ambientSealed, State.setGroupState, hg]

end Sys2Proof.Machine
end

