-- ==== Sys2Proof/Laws/Checks.lean ====
section
/-! SUPPORT. The laws of Safety.lean as tests that Lean evaluates on a concrete state, and that the tests are right. -/

namespace Sys2Proof.Machine

/-- A relation holds from each member of a list to every later one. -/
def allPairs {α : Type} (r : α → α → Bool) : List α → Bool
  | [] => true
  | a :: rest => rest.all (r a) && allPairs r rest

theorem allPairs_sound {α : Type} {r : α → α → Bool} {R : α → α → Prop} (h : ∀ a b, r a b = true → R a b) :
    ∀ l : List α, allPairs r l = true → l.Pairwise R
  | [], _ => List.Pairwise.nil
  | a :: rest, hl => by
    simp only [allPairs, Bool.and_eq_true, List.all_eq_true] at hl
    exact List.Pairwise.cons (fun b hb => h a b (hl.1 b hb)) (allPairs_sound h rest hl.2)

def Group.precedesCheck (g h : Group) : Bool :=
  Decidable.decide (g.sequence < h.sequence) && Decidable.decide (g.rank ≤ h.rank) && (g.rank != h.rank || g.rank == 1 || g.rank == 3)

/-- The status of the current explicit group and its table entry (R5), for one pair of status and state. -/
def State.ownCheck (s : State) (own : Option Nat) (state : GroupState) : Bool :=
  (match own with
    | some q => s.groups.table.any fun g => g.sequence == q && g.state == state
    | none => true) &&
    s.groups.table.all fun g => g.state != state || own == some g.sequence

theorem State.ownCheck_sound {s : State} {own : Option Nat} {state : GroupState} (h : s.ownCheck own state = true)
    (q : Nat) : own = some q ↔ s.HasGroup q state := by
  simp only [State.ownCheck, Bool.and_eq_true, List.all_eq_true] at h
  constructor
  · intro ho
    subst ho
    obtain ⟨h1, -⟩ := h
    simp only [List.any_eq_true, Bool.and_eq_true, beq_iff_eq] at h1
    exact h1
  · rintro ⟨g, hg, rfl, hs⟩
    have := h.2 g hg
    simpa [hs] using this

def Current.openedOf : Current → Option Nat
  | .opened q => some q
  | _ => Option.none

def Current.lostOf : Current → Option Nat
  | .lost x => x
  | _ => Option.none

def edgesLeadCheck : Bool → List Edge → Bool → Bool
  | before, [], after => before == after
  | before, .assertion :: rest, after => before && edgesLeadCheck false rest after
  | before, .release _ :: rest, after => !before && edgesLeadCheck true rest after

theorem edgesLeadCheck_sound : ∀ (before : Bool) (edges : List Edge) (after : Bool),
    edgesLeadCheck before edges after = true → EdgesLead before edges after
  | before, [], after, h => by simpa [edgesLeadCheck, EdgesLead] using h
  | before, .assertion :: rest, after, h => by
    simp only [edgesLeadCheck, Bool.and_eq_true] at h
    exact ⟨h.1, edgesLeadCheck_sound false rest after h.2⟩
  | before, .release _ :: rest, after, h => by
    simp only [edgesLeadCheck, Bool.and_eq_true, Bool.not_eq_true'] at h
    exact ⟨h.1, edgesLeadCheck_sound true rest after h.2⟩

def State.heldWriteCheck (s : State) : Bool :=
  match s.upstream.access with
  | some { explicit := e, stage := .heldWrite _ _ _ (.line q) } =>
    if e then s.groups.current == .opened q else s.groups.table.any fun g => g.sequence == q && g.state == .gathering
  | some { explicit := e, stage := .heldWrite _ _ _ .opening } => e && s.groups.current == .deferred
  | some { explicit := e, stage := .heldWrite _ _ _ .entry } => !e && s.gathering == none
  | _ => true

def State.noHeldWriteCheck (s : State) : Bool :=
  match s.upstream.access with
  | some { explicit := _, stage := .heldWrite _ _ _ _ } => false
  | _ => true

def State.holdupCheck (s : State) : Bool :=
  s.control.mode != some .holdup ||
    (s.gathering == none && s.groups.current != .deferred && s.groups.current.openedOf == none && s.noHeldWriteCheck)

def State.noGroupsCheck (s : State) : Bool :=
  s.groups.table == [] && s.lines == [] && (s.groups.current == .none || s.groups.current == .refused) &&
    !s.groups.openingWaits && s.groups.noted == [] && s.journal.record == none && s.cursor == none && s.noHeldWriteCheck

def State.unreadyCheck (s : State) : Bool :=
  s.boot.active == none || s.boot.step != .idle || s.control.mode == none || s.control.mode == some .starting

def State.operationCheck (s : State) (op : Operation) : Bool :=
  (op.requester != .journal || s.journal.record != none) && (op.requester != .apply || s.cursor != none) &&
    (op.requester != .startUp || s.boot.step != .idle)

/-- The groups law, as a test. -/
def State.groupLawCheck (s : State) : Bool :=
  allPairs Group.precedesCheck s.groups.table && s.ownCheck s.groups.current.openedOf .opened &&
    s.ownCheck s.groups.current.lostOf .lost &&
    (s.groups.table.all fun g =>
      (g.state != .gathering || g.kind == .ambient) && ((g.state != .opened && g.state != .lost) || g.kind == .explicit)) &&
    s.ownCheck (s.journal.record.map fun r => r.group) .journaling &&
    s.ownCheck (s.cursor.map fun c => c.group) .applying &&
    (match s.cursor with
      | some c => Decidable.decide (1 ≤ c.line) && Decidable.decide (c.line ≤ s.lineCount c.group)
      | none => true) &&
    (s.lines.all fun l => s.groups.table.any fun g => g.sequence == l.owner && g.state != .lost) && s.heldWriteCheck &&
    (!s.looseWriteInProgress || s.control.mode == some .holdup || s.groups.current == .none ||
      s.groups.current == .refused || (s.groups.current == .deferred && s.groups.openingWaits)) &&
    (!s.groups.openingWaits ||
      (s.groups.current == .deferred &&
        (s.groups.sealWaits || (s.gathering == none && !s.looseWriteInProgress)))) &&
    (((s.groups.current != .deferred || s.groups.openingWaits) && s.groups.current != .lost none) ||
      s.gathering == none) &&
    (!s.takesEdges || edgesLeadCheck false s.groups.noted s.pins.grp ||
      (edgesLeadCheck true s.groups.noted s.pins.grp && s.groups.current == .none)) &&
    (s.control.mode != some .starting || s.groups.current == .none) && (!s.unreadyCheck || s.noGroupsCheck) &&
    (s.boot.step == .idle || s.control.mode == some .starting || s.control.mode == some .halted) &&
    ((s.control.mode != some .running && s.control.mode != some .dozing) || s.boot.active != none) &&
    (s.control.mode != some .bare || s.boot.active == none) && (!s.boot.step.selects || s.boot.active == none) &&
    (s.boot.step.selects || s.boot.step == .idle || s.boot.active != none) &&
    (match s.port.inFlight with
      | some op => s.operationCheck op
      | none => true) &&
    (match s.port.suspended with
      | some op =>
        s.operationCheck op &&
          match s.port.inFlight with
          | some read => read.requester == .readPath
          | none => false
      | none => true) &&
    s.holdupCheck

theorem State.operationCheck_sound {s : State} {op : Operation} (h : s.operationCheck op = true) : s.OperationLaw op := by
  simp only [State.operationCheck, Bool.and_eq_true, Bool.or_eq_true, bne_iff_ne] at h
  refine ⟨fun hr => ?_, fun hr => ?_, fun hr => ?_⟩
  · exact h.1.1.resolve_left (by simp [hr])
  · exact h.1.2.resolve_left (by simp [hr])
  · exact h.2.resolve_left (by simp [hr])

theorem State.noHeldWriteCheck_sound {s : State} (h : s.noHeldWriteCheck = true) : s.NoHeldWrite := by
  intro e page offset data wait ha
  simp [State.noHeldWriteCheck, ha] at h

theorem State.noGroupsCheck_sound {s : State} (h : s.noGroupsCheck = true) : s.NoGroups := by
  simp only [State.noGroupsCheck, Bool.and_eq_true, Bool.or_eq_true, beq_iff_eq, Bool.not_eq_true'] at h
  obtain ⟨⟨⟨⟨⟨⟨⟨h1, h2⟩, h3⟩, h4⟩, h5⟩, h6⟩, h7⟩, h8⟩ := h
  exact ⟨h1, h2, h3, h4, h5, h6, h7, State.noHeldWriteCheck_sound h8⟩

theorem State.groupLawCheck_sound {s : State} (h : s.groupLawCheck = true) : s.GroupLaw := by
  unfold State.groupLawCheck at h
  iterate 22 (rw [Bool.and_eq_true] at h)
  obtain ⟨⟨⟨⟨⟨⟨⟨⟨⟨⟨⟨⟨⟨⟨⟨⟨⟨⟨⟨⟨⟨⟨h1, h2⟩, h3⟩, h4⟩, h5⟩, h6⟩, h7⟩, h8⟩, h9⟩, h10⟩, h11⟩, h12⟩, h13⟩, h14⟩, h15⟩, h16⟩, h17⟩,
    h18⟩, h19⟩, h20⟩, h21⟩, h22⟩, h23⟩ := h
  constructor
  · refine allPairs_sound (fun a b hab => ?_) _ h1
    simp only [Group.precedesCheck, Bool.and_eq_true, Bool.or_eq_true, decide_eq_true_eq, bne_iff_ne, beq_iff_eq] at hab
    exact ⟨hab.1.1, hab.1.2, fun he => by
      rcases hab.2 with (hn | h1) | h3
      · exact absurd he hn
      · exact Or.inl h1
      · exact Or.inr h3⟩
  · intro q
    rw [← State.ownCheck_sound h2 q]
    cases s.groups.current <;> simp [Current.openedOf]
  · intro q
    rw [← State.ownCheck_sound h3 q]
    cases s.groups.current <;> simp [Current.lostOf]
  · intro g hg
    have := (List.all_eq_true.1 h4) g hg
    simp only [Bool.and_eq_true, Bool.or_eq_true, bne_iff_ne, beq_iff_eq] at this
    refine ⟨fun hs => this.1.resolve_left (by simp [hs]), fun hs => this.2.resolve_left ?_⟩
    rintro ⟨a, b⟩
    exact hs.elim a b
  · intro q
    rw [← State.ownCheck_sound h5 q]
    simp
  · intro q
    rw [← State.ownCheck_sound h6 q]
    simp
  · intro c hc
    rw [hc] at h7
    simpa using h7
  · intro l hl
    have := (List.all_eq_true.1 h8) l hl
    simpa using this
  · intro e page offset data wait ha
    unfold State.heldWriteCheck at h9
    rw [ha] at h9
    cases wait with
    | line q => cases e <;> simpa [State.HasGroup] using h9
    | opening => simpa using h9
    | entry => simpa using h9
  · intro hl hm
    simp only [hl, Bool.not_true, Bool.false_or, Bool.or_eq_true, beq_iff_eq, Bool.and_eq_true] at h10
    tauto
  · intro hm
    simp only [State.holdupCheck, hm, bne_self_eq_false, Bool.false_or, Bool.and_eq_true, beq_iff_eq,
      bne_iff_ne] at h23
    obtain ⟨⟨⟨hg, hd⟩, ho⟩, hw⟩ := h23
    refine ⟨hg, hd, fun q hq => ?_, State.noHeldWriteCheck_sound hw⟩
    simp [hq, Current.openedOf] at ho
  · intro ho
    simp only [ho, Bool.not_true, Bool.false_or, Bool.and_eq_true, Bool.or_eq_true, beq_iff_eq,
      Bool.not_eq_true'] at h11
    exact h11
  · intro hw
    simp only [Bool.or_eq_true, Bool.and_eq_true, bne_iff_ne, beq_iff_eq] at h12
    rcases h12 with ⟨a, b⟩ | hg
    · rcases hw with ⟨hd, hn⟩ | hl
      · rcases a with a | a
        · exact absurd hd a
        · simp [hn] at a
      · exact absurd hl b
    · exact hg
  · intro ht
    simp only [ht, Bool.not_true, Bool.false_or, Bool.or_eq_true, Bool.and_eq_true, beq_iff_eq] at h13
    rcases h13 with hf | ⟨hf, hc⟩
    · exact ⟨false, edgesLeadCheck_sound _ _ _ hf, by simp⟩
    · exact ⟨true, edgesLeadCheck_sound _ _ _ hf, fun _ => hc⟩
  · intro hm
    simpa [hm] using h14
  · intro hu
    have : s.unreadyCheck = true := by
      simp only [State.unreadyCheck, Bool.or_eq_true, beq_iff_eq, bne_iff_ne]
      unfold State.Unready at hu
      tauto
    rw [this] at h15
    exact State.noGroupsCheck_sound (by simpa using h15)
  · intro hs
    simpa [hs] using h16
  · refine ⟨fun hm => ?_, fun hm => ?_, fun hm => ?_, fun hm hi => ?_⟩
    · rcases hm with hm | hm <;> simpa [hm] using h17
    · simpa [hm] using h18
    · simpa [hm] using h19
    · simpa [hm, hi] using h20
  · intro op hop
    rcases hop with hop | hop
    · rw [hop] at h21
      exact State.operationCheck_sound h21
    · rw [hop] at h22
      simp only [Bool.and_eq_true] at h22
      exact State.operationCheck_sound h22.1
  · intro p hp
    rw [hp] at h22
    simp only [Bool.and_eq_true] at h22
    cases hi : s.port.inFlight with
    | none => simp [hi] at h22
    | some op => exact ⟨op, rfl, by simpa [hi] using h22.2⟩

/-- The law of the groups, of a state that is not in DOWN and has nothing left to do. -/
theorem State.groupsLaw_of_check {s : State} (hr : s.micro = none) (hd : s.control.mode ≠ some .down)
    (h : s.groupLawCheck = true) : s.GroupsLaw :=
  ⟨hr, fun hm => absurd hm hd, fun _ => State.groupLawCheck_sound h⟩

/-- The law of the lines, as a test. -/
def State.lineLawCheck (s : State) : Bool :=
  Decidable.decide (s.lines.length ≤ Config.lineCount) && (s.lines.all fun l => l.bytes.length == Config.pageSize) &&
    (allPairs (fun l m => Decidable.decide (l.owner < m.owner) || (l.owner == m.owner && Decidable.decide (l.page < m.page))) s.lines) &&
    match s.upstream.access with
    | some { explicit := _, stage := .heldWrite page _ _ (.line q) } => !s.ownsLine q page
    | _ => true

theorem State.lineLaw_of_check {s : State} (h : s.lineLawCheck = true) : s.LineLaw := by
  simp only [State.lineLawCheck, Bool.and_eq_true, decide_eq_true_eq] at h
  obtain ⟨⟨⟨h1, h2⟩, h3⟩, h4⟩ := h
  refine ⟨h1, fun l hl => by simpa using (List.all_eq_true.1 h2) l hl, allPairs_sound (fun a b hab => ?_) _ h3, ?_⟩
  · simpa [Line.Before] using hab
  · intro e page offset data q ha
    rw [ha] at h4
    simpa using h4

/-- The law of the table, as a test. -/
def State.tableLawCheck (s : State) : Bool :=
  Decidable.decide (s.groups.table.length ≤ Config.tableSize) &&
    (allPairs (fun g h => Decidable.decide (g.sequence < h.sequence)) s.groups.table) &&
    (s.groups.table.all fun g => Decidable.decide (g.sequence < s.groups.nextSequence)) &&
    Decidable.decide (s.groups.nextSequence ≤ Config.sequenceExhausted)

theorem State.tableLaw_of_check {s : State} (h : s.tableLawCheck = true) : s.TableLaw := by
  simp only [State.tableLawCheck, Bool.and_eq_true, decide_eq_true_eq] at h
  obtain ⟨⟨⟨h1, h2⟩, h3⟩, h4⟩ := h
  refine ⟨h1, allPairs_sound (fun a b hab => ?_) _ h2, fun g hg => by simpa using (List.all_eq_true.1 h3) g hg, h4⟩
  simpa [Group.Before] using hab

end Sys2Proof.Machine
end

