-- ==== Sys2Proof/Tests/Slice0.lean ====
section
/-! SUPPORT. The model's own tests: well-formedness, the check code, a few commands one step each, and, for each
statement that has hypotheses, a state that meets them. -/

open Sys2Proof Sys2Proof.Machine

set_option maxRecDepth 8000
set_option Elab.async false

namespace Sys2Proof.Tests

/-! ### States of the tests -/

/-- The 49 bytes of a STORE: region 4000 to 4031, Q_E and Q_A 2, program limit 40, wait limit 100, doze idle 50, hold-up
budget 240 and page 800 protected. -/
def testFields : List Byte :=
  [0x0F#8, 0xA0#8, 0x00#8, 0x20#8, 2#8, 2#8, 20#8, 0x00#8, 100#8, 0x00#8, 40#8, 20#8, 0x00#8, 50#8, 0x00#8, 240#8,
    0xFF#8, 0x03#8, 0x20#8, 0x03#8, 0x20#8] ++
    (List.replicate 7 [0xFF#8, 0xFF#8, 0x00#8, 0x00#8]).flatten

/-- An image of a configuration with those fields, generation 7 and floor 5. -/
def testImage : PageBytes :=
  [0x6B#8, 0#8, 0#8, 0#8, 7#8, 0#8, 0#8, 0#8, 0#8, 0#8, 5#8] ++ testFields ++ [0#8, 0#8, 0#8, 0#8]

/-- RUNNING with that configuration, and nothing under way. -/
def running : State :=
  { State.reset with
    pins := { supply := true, rst := true, pfi := true, grp := true, lad := 0#2 }
    control := { mode := some .running, fault := none, retryOwner := none, retrying := false }
    groups := { Groups.start with nextSequence := 6 }
    journal := { Journal.start with head := 4000, tail := 4000 }
    port := { Port.start with power := .on, apwr := true }
    monitor := { debounce := .expired, settled := true, holdUp := .stopped, dozeIdle := .stopped }
    boot := { Boot.start true with active := some testImage, record := some (.opened .powerOn .none) } }

/-- A group of the tests. -/
def group (sequence : Nat) (kind : GroupKind) (state : GroupState) : Group :=
  { sequence := sequence, kind := kind, state := state }

/-- The group controller with this table and this current explicit group. -/
def groupsOf (table : List Group) (current : Current) : Groups :=
  { Groups.start with table := table, nextSequence := 6, current := current }

/-- A line with one byte at offset 3. -/
def lineOf (owner page : Nat) : Line := Line.fresh owner page 3 7#8

/-- An operation in flight. -/
def operation (requester : Requester) (kind : OpKind) (phase : OpPhase) (attempts : Nat) : Operation :=
  { requester := requester, kind := kind, page := 700, data := [], attempts := attempts, phase := phase }

/-- A port that is ON, with an operation in flight and its timer at its end. -/
def busyPort (op : Operation) : Port := { running.port with inFlight := some op, opTimer := .running 0 }

/-- An upstream port with an access at this stage. -/
def accessAt (explicit : Bool) (stage : AccessStage) : Upstream :=
  { Upstream.start with access := some { explicit := explicit, stage := stage } }

/-- RUNNING with every line in use, all of group 1, which is being applied. -/
def full : State :=
  { running with
    groups := groupsOf [group 1 .explicit .applying] .none
    lines := (List.range 32).map fun k => lineOf 1 (900 + k)
    journal := { running.journal with inUse := 32 }
    cursor := some { group := 1, line := 32 }
    port := busyPort (operation .apply .pageProgram .transfer 1)
    device := { Device.blank with program := some { page := 700, data := [], overrun := false } } }

/-- RUNNING with one line free, the others of group 1, and one sequence left. -/
def nearlyFull : State :=
  { full with
    groups := { groupsOf [group 1 .explicit .applying] .none with nextSequence := 2 ^ 48 - 2 }
    lines := (List.range 31).map fun k => lineOf 1 (900 + k)
    cursor := some { group := 1, line := 31 } }

/-- A header page of group 5 with one line, for page 700. -/
def testHeader : PageBytes := composeHeader 5 1 .explicit 2 [700]

/-- A start-up that is reading page 700, with these bytes, as the last but one page of its region. -/
def scanning (bytes : PageBytes) : State :=
  { running with
    control := { running.control with mode := some .starting }
    port := busyPort (operation .startUp .pageRead .transfer 0)
    device := Device.blank.storePage 700 bytes
    boot := { running.boot with step := .scan 30 } }

/-- The record in progress of group 5 at the start of the region, at this position. -/
def recordAt (position : Position) : Record :=
  { group := 5, firstPage := 4000, position := position, pagesDone := 0, header := [], check := 0#32 }

/-- A header of group 3 at the start of the region, as the scan finds it, or as it has been judged. -/
def foundHeader (lines : Nat) (pages : List Nat) (complete : Option Bool) : FoundHeader :=
  { page := 4000, sequence := 3, lines := lines, retiredThrough := 2, pages := pages, check := 0#32
    complete := complete }

/-! ### The commands' operands, and the check code -/

theorem test_store_without_arguments_is_ill_formed : (Instr.store []).wellFormed = false := by decide

theorem test_store_of_49_bytes_is_well_formed : (Instr.store testFields).wellFormed = true := by decide

theorem test_unknown_without_a_byte_is_ill_formed : (Instr.unknown []).wellFormed = false := by decide

theorem test_unknown_that_names_REPORT_is_ill_formed : (Instr.unknown [0x10#8]).wellFormed = false := by decide

theorem test_unknown_that_names_CLEAR_is_ill_formed : (Instr.unknown [0x20#8, 1#8, 1#8]).wellFormed = false := by decide

theorem test_unknown_with_a_wrong_count_is_well_formed : (Instr.unknown [0x20#8, 1#8]).wellFormed = true := by decide

theorem test_write_transaction_without_a_byte_is_ill_formed :
    (Instr.linkWriteTransactionEnd 0x2C#7 []).wellFormed = false := by decide

/-- R178: the check over "123456789". -/
theorem test_check_code :
    checkCode [0x31#8, 0x32#8, 0x33#8, 0x34#8, 0x35#8, 0x36#8, 0x37#8, 0x38#8, 0x39#8] = 0xCBF43926#32 := by
  decide +kernel

/-- The header layout of 11_formats, byte by byte. -/
theorem test_header_bytes :
    testHeader.take 20 =
        [0xC3#8, 0x5A#8, 0#8, 0#8, 0#8, 0#8, 0#8, 5#8, 1#8, 0x01#8, 0#8, 0#8, 0#8, 0#8, 0#8, 2#8, 0x02#8, 0xBC#8,
          0xFF#8, 0xFF#8] ∧
      testHeader.length = 64 := by
  decide +kernel

/-- The table gives no row bits, so no word spells a command and none is put into the queue. -/
theorem test_no_word_spells_a_command :
    decodeTableWord 8 0 = none ∧ (State.reset.withFetchWord 8 0).pending = [] := by
  decide

/-! ### One command each -/

/-- The state after a command. -/
def after (c : Instr) (s : State) : State :=
  match exec c s with
  | .next t => t
  | .fault _ => s
  | .refused _ => s

/-- A bracket of group 5 with two lines, which is the most its quota of 2 allows, about to write. -/
def bracket : State :=
  { running with
    pins := { running.pins with grp := false }
    upstream := accessAt true .begun
    groups := groupsOf [group 5 .explicit .opened] (.opened 5)
    lines := [lineOf 5 700, lineOf 5 701]
    outcomes := { Outcomes.start with queue := [{ result := .pending, owner := .group 5 }] } }

/-- A group that is being applied, with its line, its record in the ring and its program under way. -/
def applying : State :=
  { running with
    groups := groupsOf [group 5 .explicit .applying] .none
    lines := [lineOf 5 700]
    journal := { running.journal with tail := 4003, inUse := 3 }
    cursor := some { group := 5, line := 1 }
    port := busyPort (operation .apply .pageProgram .transfer 1)
    device := { Device.blank with program := some { page := 700, data := List.replicate 64 9#8, overrun := false } }
    pending := [.programAttemptEnd false] }

/-- R76, R80: reset is released, and a start-up with cause POWER_ON waits for PFI. -/
theorem test_rstRise_starts_up :
    (after .rstRise State.reset).control.mode = some .starting ∧ (after .rstRise State.reset).boot.step = .pfiWait ∧
      (after .rstRise State.reset).boot.record = some (.opened .powerOn .none) := by
  decide +kernel

/-- R13, as in Sequence 2: a write that needs a line beyond the quota is refused, and its group is lost with its
lines and its outcome. -/
theorem test_overflow_loses_the_group :
    let t := after (.upstreamWrite (BitVec.ofNat 20 (702 * 64)) 1#8) bracket
    t.upstream.result = some (.refused .group) ∧ t.lines = [] ∧ t.groups.current = .lost (some 5) ∧
      t.groups.table = [group 5 .explicit .lost] ∧ t.link.flags.refused = true ∧ t.link.flags.lost = true ∧
      t.link.counters.writesRefused = 1 ∧ t.link.counters.groupsLost = 1 ∧
      t.outcomes.queue.map OutcomeEntry.result = [.lost] := by
  decide +kernel

/-- R29, as in Sequence 2: a write to a page that has a line merges into it. -/
theorem test_write_merges_into_its_line :
    let t := after (.upstreamWrite (BitVec.ofNat 20 (700 * 64 + 4)) 9#8) bracket
    t.upstream.result = some .staged ∧ t.lines.length = 2 ∧ t.link.counters.writesStaged = 1 ∧
      t.forward 700 3 = some 7#8 ∧ t.forward 700 4 = some 9#8 ∧ t.forward 700 5 = none := by
  decide +kernel

/-- R36: a read of a staged byte is answered at once. -/
theorem test_read_is_forwarded :
    (after (.upstreamRead (BitVec.ofNat 20 (700 * 64 + 3))) bracket).upstream.result = some (.byte 7#8) := by
  decide +kernel

/-- R16, R119: a bare part refuses a write with reason MODE. -/
theorem test_bare_refuses_a_write :
    (after (.upstreamWrite 3#20 1#8)
      { running with
        control := { running.control with mode := some .bare }
        upstream := accessAt false .begun }).upstream.result = some (.refused .mode) := by
  decide +kernel

/-- R14, R51, R98: a released group is sealed and allocated at the tail, and the program of its header is in flight. -/
theorem test_release_seals_and_allocates :
    let t := after (.grpRelease false) { bracket with upstream := .start }
    t.groups.table = [group 5 .explicit .journaling] ∧ t.groups.current = .none ∧ t.journal.inUse = 4 ∧
      t.journal.tail = 4004 ∧ t.port.inFlight.map Operation.page = some 4000 := by
  decide +kernel

/-- R15: with DSC high at the release the group is lost. -/
theorem test_release_with_DSC_loses_the_group :
    let t := after (.grpRelease true) { bracket with upstream := .start }
    t.groups.table = [] ∧ t.lines = [] ∧ t.link.counters.groupsLost = 1 := by
  decide +kernel

/-- R69, R70: the last image of the oldest group passes, and the group retires; the page holds the image. -/
theorem test_last_image_retires_the_group :
    let t := after (.programAttemptEnd false) applying
    t.groups.table = [] ∧ t.lines = [] ∧ t.journal.inUse = 0 ∧ t.journal.head = 4003 ∧ t.journal.retired = 5 ∧
      t.device.readByte 700 3 = 9#8 ∧ t.device.readByte 701 3 = 0xFF#8 := by
  decide +kernel

/-- R161: a code that names no command is answered UNKNOWN. -/
theorem test_unknown_code :
    let s : State :=
      { running with
        link := { running.link with taken := some { bytes := [0x99#8], mode := .running, retrying := false } } }
    (after (.unknown [0x99#8]) s).link.response = { status := .unknown, data := [] } := by
  decide +kernel

/-- R162: a CLEAR taken in STARTING is turned away, also where the start-up ends before the decision. -/
theorem test_command_is_judged_by_the_mode_of_its_taking :
    let taken : Taken := { bytes := [0x20#8, 3#8, 1#8], mode := .starting, retrying := false }
    (after (.clear 3#8 1#8) { running with link := { running.link with taken := some taken } }).link.response.status =
      .refusedMode := by
  decide +kernel

/-- R115: after an abandoned read the host holds UD no more; after a wait that has expired it reads the fill value. -/
theorem test_abandoned_read_drives_no_byte :
    let s := { running with upstream := { accessAt false (.heldRead 700 3 false) with waitTimer := .running 0 } }
    (∀ holds, (after .accessAbandoned s).ud holds = none) ∧ (after .waitLimitExpiry s).ud true = some 0xFF#8 ∧
      (after .waitLimitExpiry s).ud false = none := by
  decide +kernel

/-- R115: a completed read's byte stays on UD over the start-up of a RESTART, and is gone after reset. -/
theorem test_completed_read_stays_on_UD_over_a_restart :
    let s :=
      { running with
        control := { running.control with mode := some .halted }
        upstream := { Upstream.start with result := some (.byte 7#8) }
        link := { running.link with taken := some { bytes := [0x50#8], mode := .halted, retrying := false } } }
    (after .restart s).control.mode = some .starting ∧ (after .restart s).ud true = some 7#8 ∧
      (after .rstRise (after .rstFall s)).control.mode = some .starting ∧
      (after .rstRise (after .rstFall s)).ud true = none := by
  decide +kernel

/-- R97, R100, R102: a program that shows its latch clear three times is never sent, and its page keeps its bytes (log
43). -/
theorem test_program_without_a_latch_changes_no_page :
    let s :=
      { applying with
        port := { running.port with inFlight := some (operation .apply .pageProgram .start 2) }
        device :=
          { (Device.blank.storePage 700 [5#8]) with
            statusFaults := [{ busy := false, latchClear := false }, { busy := false, latchClear := true }] } }
    s.settle.control.fault.map FaultRecord.kind = some .applyFail ∧ s.settle.device.isUndefined 700 = false ∧
      s.settle.device.readByte 700 0 = 5#8 := by
  decide +kernel

/-- R150: a held write is refused at the halt, and the deferred group behind it stays deferred. -/
theorem test_deferred_group_stays_in_HALTED :
    let s :=
      { full with
        upstream := accessAt false (.heldWrite 700 3 7#8 (.line 5))
        groups :=
          { groupsOf [group 1 .explicit .applying, group 5 .ambient .gathering] .deferred with
            sealWaits := true, openingWaits := true } }
    let t := after .operationTimerExpiry s
    t.control.mode = some .halted ∧ t.groups.current = .deferred ∧
      t.groups.table = [group 1 .explicit .applying, group 5 .ambient .sealed] ∧
      t.upstream.result = some (.refused .mode) := by
  decide +kernel

/-- R102: a program that ran beyond its limit leaves its page undefined, whatever the device reports at its end. -/
theorem test_overrun_program_leaves_its_page_undefined :
    let s := { applying with port := busyPort (operation .startUp .pageRead .readyCheck 0) }
    let late := { s with device := { s.device with program := s.device.program.map fun p => { p with overrun := true } } }
    (after (.readyCheckPass false) late).device.isUndefined 700 = true ∧
      (after (.readyCheckPass false) s).device.isUndefined 700 = false ∧
      (after .operationTimerExpiry applying).device.program.map (fun p => p.overrun) = some true := by
  decide +kernel

/-- R82: a torn copy is invalid, whatever its bytes read as. -/
theorem test_torn_copy_is_invalid :
    let s :=
      { scanning (composeCopy 8 5 testFields) with boot := { running.boot with active := none, step := .readCopyA } }
    let torn := { s with device := { s.device with cells := [], undefinedPages := [(700, 0)] } }
    (after .pageReadEnd torn).boot.step = .readCopyB none ∧ (after .pageReadEnd s).boot.step ≠ .readCopyB none := by
  decide +kernel

/-- Log 18: at HOLDUP an apply program behind a slot read is withdrawn. -/
theorem test_holdup_withdraws_the_program_behind_a_slot_read :
    let s :=
      { running with
        groups := groupsOf [group 1 .explicit .applying] .none
        lines := [lineOf 1 900]
        cursor := some { group := 1, line := 1 }
        port :=
          { busyPort (operation .readPath .pageRead .transfer 0) with
            suspended := some (operation .apply .pageProgram .start 1) } }
    (after .supplyWarning s).port.suspended = none ∧
      (after .supplyWarning s).port.inFlight = some (operation .readPath .pageRead .transfer 0) := by
  decide +kernel

/-- R163: the report block has 95 bytes, and its first names the mode. -/
theorem test_report_block :
    let t := after .report
      { running with
        link := { running.link with taken := some { bytes := [0x10#8], mode := .running, retrying := false } } }
    t.link.response.status = .done ∧ t.link.response.data.length = 95 ∧ t.link.response.data.head? = some 3#8 := by
  decide +kernel

/-- R6, R23: an assertion of GRP# opens group 6, which is owed an outcome. -/
theorem test_assertion_opens_a_group :
    (after .grpAssertion running).groups.table = [group 6 .explicit .opened] ∧
      (after .grpAssertion running).groups.nextSequence = 7 ∧
      (after .grpAssertion running).outcomes.queue = [{ result := .pending, owner := .group 6 }] := by
  decide +kernel

/-! ### States that meet the hypotheses of the statements -/

theorem test_witness_StepRunsTheFrontCommand :
    ∃ (c : Instr) (rest : List Instr) (s : State), s.pending = c :: rest :=
  ⟨.programAttemptEnd false, [], applying, rfl⟩

theorem test_witness_EmptyQueueLetsTimePass : ∃ s : State, s.pending = [] := ⟨running, rfl⟩

theorem test_applying_meets_the_groups_law : applying.GroupsLaw :=
  State.groupsLaw_of_check (by decide +kernel) (by decide) (by decide +kernel)

/-- One state meets the premises of every statement that a step keeps a law, with its step. -/
theorem test_witness_StepKeepsTheLaws :
    ∃ s t : State,
      s.MemoryLaw ∧ s.TableLaw ∧ s.RangeLaw ∧ s.LineLaw ∧ s.PowerLaw ∧ s.GroupsLaw ∧ s.RingLaw ∧ step s = .next t :=
  ⟨applying, after (.programAttemptEnd false) { applying with pending := [] }, by simp [State.MemoryLaw]; decide,
    State.tableLaw_of_check (by decide), ⟨by decide, by decide, by simp only [Counters.Bounded]; decide⟩,
    State.lineLaw_of_check (by decide),
    ⟨by decide, by decide, by decide, by decide, by decide, by decide, by decide, by decide⟩,
    test_applying_meets_the_groups_law, ⟨by decide +kernel, by decide +kernel⟩, rfl⟩

theorem test_witness_SettlingComesToRest :
    (∃ (s : State) (t : State), s.micro = some t) ∧
    (∃ (s : State), s.micro = none) ∧
    (∃ (s : State) (t : State), s.micro = some t ∧ t.micro = none) := by
  refine ⟨
      ⟨{ running with port := busyPort (operation .link .pageRead .failed 1) },
       ({ running with port := busyPort (operation .link .pageRead .failed 1) }).micro.getD running, ?_⟩,
      ⟨running, ?_⟩,
      ⟨{ running with upstream := { accessAt true (.heldWrite 700 3 7#8 .entry) with waitTimer := .running 0 } },
       ({ running with
         upstream := { accessAt true (.heldWrite 700 3 7#8 .entry) with waitTimer := .running 0 } }).micro.getD
        running, ?_⟩⟩
  all_goals decide +kernel

theorem test_witness_ArrayChangesOnlyWhereAProgramRuns :
    ∃ (c : Instr) (s t : State) (page offset : Nat), exec c s = .next t ∧ offset < 64 ∧
      (∀ p, s.device.program = some p → p.page ≠ page) :=
  ⟨.programAttemptEnd false, applying, after (.programAttemptEnd false) applying, 701, 63, rfl, by decide,
    fun p h => by cases h; decide⟩

theorem test_bracket_meets_the_groups_law : bracket.GroupsLaw :=
  State.groupsLaw_of_check (by decide +kernel) (by decide) (by decide +kernel)

theorem test_witness_ReadReturnsTheStagedByte :
    ∃ (s t : State) (e : Bool) (address : Address) (data : Byte),
      s.GroupsLaw ∧ s.LineLaw ∧ s.TableLaw ∧
        (s.control.mode = some .running ∨ s.control.mode = some .draining ∨ s.control.mode = some .dozing) ∧
        s.AtStrobe e ∧ s.groups.noted = [] ∧ exec (.upstreamWrite address data) s = .next t ∧
        t.upstream.access = none ∧ t.upstream.result = some .staged ∧
        (t.control.mode = some .running ∨ t.control.mode = some .draining) :=
  ⟨bracket, after (.upstreamWrite (BitVec.ofNat 20 (700 * 64 + 63)) 9#8) bracket, true,
    BitVec.ofNat 20 (700 * 64 + 63), 9#8, test_bracket_meets_the_groups_law, State.lineLaw_of_check (by decide),
    State.tableLaw_of_check (by decide), Or.inl rfl, Or.inr rfl, rfl, rfl, by decide +kernel, by decide +kernel,
    Or.inl (by decide +kernel)⟩

/-- A complete record of group 5, as the scan finds it. -/
def testFound : FoundHeader :=
  { page := 4030, sequence := 5, lines := 1, retiredThrough := 2, pages := [700], check := 0#32
    complete := some true }

theorem test_witness_CutOffSelectsTheRecordsToReplay :
    (∃ headers : List FoundHeader, headers ≠ []) ∧
    (∃ (headers : List FoundHeader) (h : FoundHeader), h ∈ completeRecords headers) ∧
    (∃ (headers : List FoundHeader) (h : FoundHeader), h ∈ headers ∧ h.complete = some true) ∧
    (∃ (s : State) (i : Nat), s.boot.headers.length ≤ i) ∧
    (∃ (s : State) (r : StartUpRecord), s.boot.record = some r) ∧
    (∃ (s : State) (h : FoundHeader) (rest : List FoundHeader), s.boot.toReplay = h :: rest) :=
  ⟨⟨[testFound], by decide⟩, ⟨[testFound], testFound, by decide +kernel⟩, ⟨[testFound], testFound, by decide⟩,
    ⟨{ running with boot := { running.boot with headers := [testFound] } }, 1, by decide⟩, ⟨running, _, rfl⟩,
    ⟨{ running with boot := { running.boot with toReplay := [testFound] } }, testFound, [], rfl⟩⟩

theorem test_witness_NextSequenceAfterAStartUp :
    (∃ floor : Nat, floor ≤ 2 ^ 48 - 1) ∧
    (∃ (headers : List FoundHeader) (h : FoundHeader), h ∈ headers ∧ ∀ g ∈ headers, g.sequence ≤ h.sequence) :=
  ⟨⟨2 ^ 48 - 1, by decide⟩, [testFound], testFound, by decide, by decide⟩

theorem test_witness_ComposedPagesAreJudgedValid :
    (∃ (generation floor : Nat) (fields : List Byte), generation < 2 ^ 32 ∧ 1 ≤ floor ∧ floor ≤ 2 ^ 48 - 2 ∧
      fields.length = 49 ∧ (parseStoreFields fields).firstBadField = none) ∧
    (∃ (c : Configuration) (sequence retired : Nat) (pages : List Nat), sequence < 2 ^ 48 ∧ retired < 2 ^ 48 ∧
      1 ≤ pages.length ∧ pages.length ≤ 22 ∧ ∀ p ∈ pages, p < 16384 ∧ c.isReserved p = false) ∧
    (∃ (h : FoundHeader) (sequence lines : Nat), h.sequence < 2 ^ 48 ∧ h.lines < 256 ∧ sequence < 2 ^ 48 ∧
      lines < 256) :=
  ⟨⟨2 ^ 32 - 1, 2 ^ 48 - 2, testFields, by decide +kernel⟩,
    ⟨running.config, 2 ^ 48 - 1, 2 ^ 48 - 1, List.replicate 22 16381, by decide +kernel⟩,
    ⟨testFound, 2 ^ 48 - 1, 255, by decide⟩⟩


theorem test_witness_DownIsInactive :
    (∃ (c : Instr) (s : State), s.GroupsLaw ∧ s.control.mode = some Mode.down ∧ s.pins.supply = true ∧
      s.pins.rst = true ∧ c ≠ Instr.pfiDebounceExpiry ∧ c ≠ Instr.rstFall ∧ c ≠ Instr.supplyBelowOperatingLevel) := by
  refine
      ⟨Instr.waitLimitExpiry,
       { running with
        control := { running.control with mode := some .down }
        port := { running.port with power := .off, apwr := false } }, ?_⟩
  all_goals
    repeat'
      first
      | decide +kernel
      | exact ⟨by decide, fun _ => by decide, fun h => absurd rfl h⟩
      | refine And.intro ?_ ?_

theorem test_witness_SupplyAndResetBeginStartUp :
    (∃ (s : State), s.pins.supply = false) ∧
    (∃ (s : State), s.pins.rst = false ∧ s.pins.supply = true) ∧
    (∃ (s : State), s.pins.rst = false ∧ s.pins.supply = false) ∧
    (∃ (s : State), s.pins.supply = false) := by
  refine ⟨
      ⟨{ running with pins := { running.pins with supply := false, rst := false } }, ?_⟩,
      ⟨{ nearlyFull with pins := { running.pins with rst := false } }, ?_⟩,
      ⟨{ running with pins := { running.pins with supply := false, rst := false } }, ?_⟩,
      ⟨{ full with pins := { running.pins with supply := false } }, ?_⟩⟩
  all_goals decide +kernel

theorem test_witness_ResetAndSupplyLossClearTheState :
    (∃ (s : State), s.pins.rst = true ∧ s.pins.supply = true) ∧
    (∃ (s : State), s.pins.supply = true) ∧
    (∃ (s : State), s.pins.rst = true ∧ s.pins.supply = false) := by
  refine ⟨
      ⟨running, ?_⟩,
      ⟨nearlyFull, ?_⟩,
      ⟨{ running with pins := { running.pins with supply := false } }, ?_⟩⟩
  all_goals decide +kernel

theorem test_witness_WarningOutsideJournalWork :
    (∃ (s : State), s.pins.pfi = true ∧
      (s.control.mode = some Mode.dozing ∨ s.control.mode = some Mode.bare ∨ s.control.mode = some Mode.starting ∨
         s.control.mode = some Mode.halted)) ∧
    (∃ (s : State), s.pins.pfi = true ∧
      (s.control.mode = some Mode.holdup ∨ s.control.mode = some Mode.down ∨ s.control.mode = none)) := by
  refine ⟨
      ⟨{ running with control := { running.control with mode := some .dozing } }, ?_⟩,
      ⟨{ running with control := { running.control with mode := some .down } }, ?_⟩⟩
  all_goals decide +kernel

/-- A read in the read slot, with a program of this requester behind it. -/
def slotPort (requester : Requester) : Port :=
  { busyPort (operation .readPath .pageRead .transfer 0) with
    suspended := some (operation requester .pageProgram .start 1) }

/-- A loose write waits for a line, with a bracket opened behind it. -/
def deferredBehindAWrite : State :=
  { full with
    pins := { running.pins with grp := false }
    upstream := accessAt false (.heldWrite 700 3 7#8 (.line 5))
    groups :=
      { groupsOf [group 1 .explicit .applying, group 5 .ambient .gathering] .deferred with
        sealWaits := true, openingWaits := true } }

/-- A deferred group waits for an entry, with its write held. -/
def deferredForAnEntry : State :=
  { full with
    pins := { running.pins with grp := false }
    upstream := accessAt true (.heldWrite 700 3 7#8 .opening)
    groups :=
      groupsOf (group 1 .explicit .applying :: (List.range 7).map fun k => group (k + 2) .explicit .durable)
        .deferred }

/-- A state for each clause: an OPEN group, a deferred one with and without a group that gathers, neither, with and
without one, and for the access and the program behind a slot read. -/
theorem test_witness_WarningEntersHoldup :
    let warned (s : State) : Prop :=
      s.GroupsLaw ∧ s.pins.pfi = true ∧ (s.control.mode = some .running ∨ s.control.mode = some .draining)
    (∃ s, warned s ∧ ∃ q, s.groups.current = .opened q) ∧
    (∃ s, warned s ∧ s.groups.current = .deferred ∧ s.gathering = none) ∧
    (∃ s, warned s ∧ s.groups.current = .deferred ∧ ∃ g, s.gathering = some g) ∧
    (∃ s, warned s ∧ (∀ q, s.groups.current ≠ .opened q) ∧ s.groups.current ≠ .deferred ∧ s.gathering = none) ∧
    (∃ s, warned s ∧ (∀ q, s.groups.current ≠ .opened q) ∧ s.groups.current ≠ .deferred ∧
      ∃ g, s.gathering = some g) ∧
    (∃ s, warned s ∧ ∃ e page offset data wait,
      s.upstream.access = some { explicit := e, stage := .heldWrite page offset data wait }) ∧
    (∃ s, warned s ∧ ∃ e page offset, s.upstream.access = some { explicit := e, stage := .heldRead page offset false }) ∧
    (∃ s, warned s ∧ ∃ e, s.upstream.access = some { explicit := e, stage := .begun }) ∧
    (∃ s, warned s ∧ ∃ op, s.port.suspended = some op ∧ op.requester ≠ .journal) ∧
    (∃ s, warned s ∧ ∃ op, s.port.suspended = some op ∧ op.requester = .journal) := by
  refine
    ⟨⟨bracket, ?_, 5, rfl⟩,
      ⟨deferredForAnEntry, ?_, rfl, rfl⟩,
      ⟨deferredBehindAWrite, ?_, rfl, group 5 .ambient .gathering, rfl⟩,
      ⟨{ full with control := { running.control with mode := some .draining } }, ?_, nofun, by decide, rfl⟩,
      ⟨{ running with groups := groupsOf [group 5 .ambient .gathering] .none }, ?_, nofun, by decide,
        group 5 .ambient .gathering, rfl⟩,
      ⟨deferredForAnEntry, ?_, true, 700, 3, 7#8, .opening, rfl⟩,
      ⟨{ full with upstream := accessAt false (.heldRead 800 3 false) }, ?_, false, 800, 3, rfl⟩,
      ⟨bracket, ?_, true, rfl⟩,
      ⟨{ full with port := slotPort .apply, device := Device.blank }, ?_, operation .apply .pageProgram .start 1, rfl,
        by decide⟩,
      ⟨{ running with
         groups := groupsOf [group 5 .explicit .journaling] .none
         lines := [lineOf 5 700]
         journal := { running.journal with inUse := 3, tail := 4003, record := some (recordAt .header) }
         port := slotPort .journal }, ?_, operation .journal .pageProgram .start 1, rfl, rfl⟩⟩
  all_goals
    exact ⟨State.groupsLaw_of_check (by decide +kernel) (by decide) (by decide +kernel), by decide, by decide⟩

theorem test_witness_TimersRunOut :
    (∃ (s : State), s.pins.pfi = false ∧ s.pins.supply = true) ∧
    (∃ (s : State), s.pins.pfi = false ∧ s.pins.supply = false) ∧
    (∃ (s : State), s.monitor.debounce.isRunning = true ∧ s.pins.pfi = true ∧ s.control.mode = some Mode.down) ∧
    (∃ (s : State), s.monitor.debounce.isRunning = true ∧ s.pins.pfi = true ∧ s.control.mode = some Mode.starting ∧
      s.boot.step = BootStep.pfiWait) ∧
    (∃ (s : State), s.monitor.debounce.isRunning = true ∧ s.pins.pfi = true ∧ s.control.mode ≠ some Mode.down ∧
      ¬(s.control.mode = some Mode.starting ∧ s.boot.step = BootStep.pfiWait)) ∧
    (∃ (s : State), s.monitor.holdUp.isRunning = true) ∧
    (∃ (s : State), s.monitor.dozeIdle.isRunning = true) ∧
    (∃ (s : State), s.control.mode = some Mode.running ∧ s.monitor.dozeIdle = Timer.expired ∧ s.groups.table = [] ∧
      s.outcomes.queue = [] ∧ s.port.inFlight = none ∧ s.port.suspended = none ∧ s.upstream.access = none ∧
      s.pins.grp = true ∧ s.link.taken = none) ∧
    (∃ (s : State), s.port.wakeTimer.isRunning = true ∧ s.boot.step ≠ BootStep.waking) ∧
    (∃ (s : State), s.port.wakeTimer.isRunning = true ∧ s.boot.step = BootStep.waking) := by
  refine ⟨
      ⟨{ nearlyFull with pins := { running.pins with pfi := false } }, ?_⟩,
      ⟨{ scanning [] with pins := { running.pins with supply := false, pfi := false } }, ?_⟩,
      ⟨{ running with
        control := { running.control with mode := some .down }
        monitor := { running.monitor with debounce := .running 0, settled := false } }, ?_⟩,
      ⟨{ scanning [] with
        monitor := { running.monitor with debounce := .running 0, settled := false }
        boot := { running.boot with active := none, step := .pfiWait } }, ?_⟩,
      ⟨{ running with monitor := { running.monitor with debounce := .running 0, settled := false } }, ?_⟩,
      ⟨{ full with monitor := { running.monitor with holdUp := .running 160 } }, ?_⟩,
      ⟨{ full with monitor := { running.monitor with dozeIdle := .running 0 } }, ?_⟩,
      ⟨{ running with monitor := { running.monitor with dozeIdle := .expired } }, ?_⟩,
      ⟨{ scanning testHeader with port := { running.port with power := .waking, wakeTimer := .running 0 } }, ?_⟩,
      ⟨{ running with
        port := { running.port with power := .waking, wakeTimer := .running 0 }
        boot := { running.boot with active := none, step := .waking } }, ?_⟩⟩
  all_goals decide +kernel

theorem test_witness_HoldupEndsInDown :
    (∃ (s : State), s.control.mode = some Mode.holdup ∧ s.port.inFlight = none ∧ s.port.suspended = none ∧
      (s.monitor.holdUp = Timer.expired ∨ s.journal.stopped = true ∨ s.journal.record = none ∧
         (s.journal.declined = true ∨ ∀ (g : Group), g ∈ s.groups.table → g.state ≠ GroupState.sealed))) ∧
    (∃ (s : State) (t : State), s.downStep = some t) := by
  refine ⟨
      ⟨{ running with control := { running.control with mode := some .holdup } }, ?_⟩,
      ⟨{ running with control := { running.control with mode := some .holdup } },
       ({ running with control := { running.control with mode := some .holdup } }).downStep.getD running, ?_⟩⟩
  all_goals decide +kernel

theorem test_witness_AssertionOpensOrDefersAGroup :
    (∃ (s : State), s.control.mode = some Mode.running ∧ s.pins.grp = true ∧ s.NoEdgeWaits ∧
      s.looseWriteInProgress = false ∧ s.outcomes.queue.length < 16 ∧ s.groups.table.length < 8 ∧
      s.groups.nextSequence < 2 ^ 48 - 1 ∧ s.NoCurrentOutcome) ∧
    (∃ (s : State), s.control.mode = some Mode.dozing ∧ s.pins.grp = true ∧ s.upstream.access = none ∧
      s.gathering = none ∧ s.outcomes.queue = [] ∧ s.groups.table.length < 8 ∧ s.groups.nextSequence < 2 ^ 48 - 1) ∧
    (∃ (s : State), s.control.mode = some Mode.running ∧ s.pins.grp = true ∧ s.NoEdgeWaits ∧
      s.looseWriteInProgress = false ∧ s.outcomes.queue.length < 16 ∧ 8 ≤ s.groups.table.length ∧
      s.groups.nextSequence < 2 ^ 48 - 1) ∧
    (∃ (s : State), s.control.mode = some Mode.running ∧ s.pins.grp = true ∧ s.NoEdgeWaits ∧
      s.looseWriteInProgress = true ∧ s.outcomes.queue.length < 16 ∧ s.groups.nextSequence < 2 ^ 48 - 1) := by
  refine ⟨
      ⟨{ running with
        groups :=
          { groupsOf ((List.range 7).map fun k => group k .explicit .sealed) .none with nextSequence := 2 ^ 48 - 2 }
        outcomes := { Outcomes.start with queue := List.replicate 15 { result := .lost, owner := .dropped } } }, ?_⟩,
      ⟨{ running with
        control := { running.control with mode := some .dozing }
        groups :=
          { groupsOf ((List.range 7).map fun k => group k .explicit .sealed) .none with
            nextSequence := 2 ^ 48 - 2 } }, ?_⟩,
      ⟨{ running with
        groups :=
          { groupsOf ((List.range 8).map fun k => group k .explicit .sealed) .deferred with
            nextSequence := 2 ^ 48 - 2 }
        outcomes := { Outcomes.start with queue := List.replicate 15 { result := .lost, owner := .dropped } } }, ?_⟩,
      ⟨{ nearlyFull with
        upstream := { accessAt false (.heldWrite 700 3 7#8 (.line 5)) with waitTimer := .running 0 }
        outcomes := { Outcomes.start with queue := List.replicate 15 { result := .lost, owner := .dropped } } }, ?_⟩⟩
  all_goals
    repeat'
      first
      | decide +kernel
      | (simp only [State.NoCurrentOutcome]; decide)
      | (right; decide)
      | refine And.intro ?_ ?_

theorem test_witness_AssertionWithoutAGroup :
    (∃ (s : State),
      (s.control.mode = some Mode.draining ∨ s.control.mode = some Mode.halted ∨ s.control.mode = some Mode.bare) ∧
      s.pins.grp = true ∧ s.NoEdgeWaits ∧ s.outcomes.queue.length < 16) ∧
    (∃ (s : State),
      (s.control.mode = some Mode.draining ∨ s.control.mode = some Mode.halted ∨ s.control.mode = some Mode.bare) ∧
      s.pins.grp = true ∧ s.NoEdgeWaits ∧ 16 ≤ s.outcomes.queue.length) ∧
    (∃ (s : State), s.control.mode = some Mode.running ∧ s.pins.grp = true ∧ s.NoEdgeWaits ∧
      s.looseWriteInProgress = false ∧ s.outcomes.queue.length < 16 ∧ 2 ^ 48 - 1 ≤ s.groups.nextSequence) ∧
    (∃ (s : State), s.control.mode = some Mode.running ∧ s.pins.grp = true ∧ s.NoEdgeWaits ∧
      s.looseWriteInProgress = false ∧ 16 ≤ s.outcomes.queue.length) ∧
    (∃ (s : State), s.control.mode = some Mode.running ∧ s.pins.grp = true ∧ s.NoEdgeWaits ∧
      s.looseWriteInProgress = true ∧ s.outcomes.queue.length < 16 ∧ 2 ^ 48 - 1 ≤ s.groups.nextSequence) ∧
    (∃ (s : State), s.control.mode = some Mode.running ∧ s.pins.grp = true ∧ s.NoEdgeWaits ∧
      s.looseWriteInProgress = true ∧ 16 ≤ s.outcomes.queue.length) ∧
    (∃ (s : State), s.control.mode = some Mode.dozing ∧ s.pins.grp = true ∧ s.upstream.access = none ∧
      s.gathering = none ∧ s.outcomes.queue = [] ∧ 2 ^ 48 - 1 ≤ s.groups.nextSequence) ∧
    (∃ (s : State), s.pins.grp = true ∧
      (s.control.mode = some Mode.holdup ∧ s.NoEdgeWaits ∨ s.control.mode = some Mode.starting ∨ s.control.mode = some
         Mode.down ∨ s.control.mode = none)) := by
  refine ⟨
      ⟨{ full with
        control := { running.control with mode := some .bare }
        outcomes := { Outcomes.start with queue := List.replicate 15 { result := .lost, owner := .dropped } } }, ?_⟩,
      ⟨{ running with
        control := { running.control with mode := some .bare }
        outcomes := { Outcomes.start with queue := List.replicate 16 { result := .lost, owner := .dropped } } }, ?_⟩,
      ⟨{ full with
        groups := { groupsOf [] .none with nextSequence := 2 ^ 48 - 1 }
        outcomes := { Outcomes.start with queue := List.replicate 15 { result := .lost, owner := .dropped } } }, ?_⟩,
      ⟨{ running with
        outcomes := { Outcomes.start with queue := List.replicate 16 { result := .lost, owner := .dropped } } }, ?_⟩,
      ⟨{ full with
        upstream := accessAt false (.heldWrite 700 3 7#8 (.line 5))
        groups :=
          { groupsOf [group 1 .explicit .applying, group 5 .ambient .gathering] .none with
            nextSequence := 2 ^ 48 - 1 }
        outcomes := { Outcomes.start with queue := List.replicate 15 { result := .lost, owner := .dropped } } }, ?_⟩,
      ⟨{ running with
        upstream := accessAt false .begun
        outcomes := { Outcomes.start with queue := List.replicate 16 { result := .lost, owner := .dropped } } }, ?_⟩,
      ⟨{ running with
        control := { running.control with mode := some .dozing }
        groups := { groupsOf [] .none with nextSequence := 2 ^ 48 - 1 } }, ?_⟩,
      ⟨{ running with control := Control.start }, ?_⟩⟩
  all_goals
    repeat'
      first
      | decide +kernel
      | (right; decide)
      | refine And.intro ?_ ?_

theorem test_witness_ReleaseEndsTheExplicitGroup :
    (∃ (s : State) (q : Nat), s.takesEdges = true ∧ s.pins.grp = false ∧ s.writeInProgress = false ∧
      s.groups.current = Current.opened q ∧ s.NoCurrentOutcome) ∧
    (∃ (s : State), s.takesEdges = true ∧ s.pins.grp = false ∧ s.writeInProgress = false ∧
      (s.groups.current = Current.deferred ∨ s.groups.current = Current.refused)) ∧
    (∃ (s : State) (q : Nat), s.takesEdges = true ∧ s.pins.grp = false ∧ s.writeInProgress = false ∧
      s.NoCurrentOutcome ∧ s.groups.current = Current.lost (some q)) ∧
    (∃ (s : State), s.takesEdges = true ∧ s.pins.grp = false ∧ s.writeInProgress = false ∧
      s.groups.current = Current.lost none) ∧
    (∃ (s : State), s.takesEdges = true ∧ s.pins.grp = false ∧ s.writeInProgress = false ∧
      s.groups.current = Current.none) ∧
    (∃ (s : State), s.takesEdges = false ∧ s.pins.grp = false) := by
  refine ⟨
      ⟨{ running with
        pins := { running.pins with grp := false }
        groups := groupsOf [group 5 .explicit .opened] (.opened 5) }, 5, ?_⟩,
      ⟨{ running with pins := { running.pins with grp := false }, groups := groupsOf [] .refused }, ?_⟩,
      ⟨{ nearlyFull with
        pins := { running.pins with grp := false }
        groups := groupsOf [group 1 .explicit .lost, group 5 .explicit .sealed] (.lost (some 1)) }, 1, ?_⟩,
      ⟨{ full with pins := { running.pins with grp := false }, groups := groupsOf [] (.lost none) }, ?_⟩,
      ⟨{ running with pins := { running.pins with grp := false } }, ?_⟩,
      ⟨{ running with
        control := { running.control with mode := some .down }
        pins := { running.pins with grp := false } }, ?_⟩⟩
  all_goals
    first
    | decide +kernel
    | (simp only [State.NoCurrentOutcome]; decide)

theorem test_witness_EdgesDuringAWriteAreNoted :
    (∃ (s : State), s.takesEdges = true ∧ s.pins.grp = false ∧ s.writeInProgress = true ∧
      (s.groups.openingWaits = true ∨ s.groups.noted ≠ [] ∨ s.accessExplicit = true ∧
         (s.groups.current = Current.deferred ∨ ∃ (q : Nat), s.groups.current = Current.opened q))) ∧
    (∃ (s : State), s.takesEdges = true ∧ s.pins.grp = true ∧ s.writeInProgress = true ∧
      (s.groups.openingWaits = true ∨ s.groups.noted ≠ [])) ∧
    (∃ (s : State), s.writeInProgress = true) ∧
    (∃ (s : State), s.takesEdges = true ∧ s.writeInProgress = false ∧ s.groups.sealWaits = false ∧
      s.groups.openingWaits = true ∧ s.groups.current = Current.deferred ∧
      (s.control.mode = some Mode.halted ∨ 8 ≤ s.groups.table.length)) ∧
    (∃ (s : State), s.takesEdges = true ∧ s.writeInProgress = false ∧ s.groups.sealWaits = false ∧
      s.groups.openingWaits = true ∧ s.groups.current = Current.deferred ∧ s.control.mode ≠ some Mode.halted ∧
      s.groups.table.length < 8 ∧ s.groups.nextSequence < 2 ^ 48 - 1) ∧
    (∃ (s : State) (dsc : Bool) (rest : List Edge), s.takesEdges = true ∧ s.writeInProgress = false ∧
      s.groups.sealWaits = false ∧ s.groups.openingWaits = false ∧ s.groups.noted = Edge.release dsc :: rest ∧
      s.pins.grp = true) ∧
    (∃ (s : State) (rest : List Edge), s.takesEdges = true ∧ s.writeInProgress = false ∧ s.groups.sealWaits = false ∧
      s.groups.openingWaits = false ∧ s.groups.noted = Edge.assertion :: rest ∧ s.pins.grp = false) := by
  refine ⟨
      ⟨{ nearlyFull with
        pins := { running.pins with grp := false }
        upstream := { accessAt false (.heldWrite 700 3 7#8 .opening) with waitTimer := .running 0 }
        groups := { groupsOf [] .deferred with sealWaits := true, openingWaits := true } }, ?_⟩,
      ⟨{ running with
        upstream := { accessAt true (.heldWrite 700 3 7#8 .opening) with waitTimer := .running 0 }
        groups := { groupsOf [] .none with noted := [.release true] } }, ?_⟩,
      ⟨{ full with upstream := { accessAt false (.heldWrite 700 3 7#8 .entry) with waitTimer := .running 0 } }, ?_⟩,
      ⟨{ running with
        control := { running.control with mode := some .halted, retrying := true, retryOwner := some .startUp }
        groups := { groupsOf [] .deferred with openingWaits := true } }, ?_⟩,
      ⟨{ nearlyFull with groups := { groupsOf [] .deferred with openingWaits := true } }, ?_⟩,
      ⟨{ nearlyFull with
        groups := { groupsOf [group 5 .explicit .opened] (.opened 5) with noted := [.release true] } }, true, [], ?_⟩,
      ⟨{ running with
        pins := { running.pins with grp := false }
        groups := { groupsOf [] .none with current := .opened 5, noted := [.assertion] } }, [], ?_⟩⟩
  all_goals
    repeat'
      first
      | decide +kernel
      | (left; decide)
      | refine And.intro ?_ ?_

theorem test_witness_AmbientGroupIsSealed :
    (∃ (s : State) (g : Group), s.groups.idleTimer.isRunning = true ∧ s.gathering = some g ∧
      s.looseWriteInProgress = false ∧ s.groups.sealWaits = false) ∧
    (∃ (s : State) (g : Group), s.groups.idleTimer.isRunning = true ∧ s.gathering = some g ∧
      s.groups.sealWaits = true) ∧
    (∃ (s : State) (g : Group) (page : Nat) (offset : Nat) (data : Byte) (q : Nat),
      s.groups.idleTimer.isRunning = true ∧ s.gathering = some g ∧
      s.upstream.access = some
        { explicit := false, stage := AccessStage.heldWrite page offset data (WriteWait.line q) }) ∧
    (∃ (s : State) (mode : Mode), (mode = Mode.running ∨ mode = Mode.draining) ∧ s.AtDecision [48#8] mode ∧
      s.gathering = none) ∧
    (∃ (s : State) (mode : Mode) (g : Group), (mode = Mode.running ∨ mode = Mode.draining) ∧
      s.AtDecision [48#8] mode ∧ s.gathering = some g ∧ s.looseWriteInProgress = false ∧ s.groups.sealWaits = false) ∧
    (∃ (s : State) (mode : Mode) (g : Group), (mode = Mode.running ∨ mode = Mode.draining) ∧
      s.AtDecision [48#8] mode ∧ s.gathering = some g ∧ s.groups.sealWaits = true) ∧
    (∃ (s : State) (mode : Mode) (g : Group) (page : Nat) (offset : Nat) (data : Byte) (q : Nat),
      (mode = Mode.running ∨ mode = Mode.draining) ∧ s.AtDecision [48#8] mode ∧ s.gathering = some g ∧
      s.upstream.access = some
        { explicit := false, stage := AccessStage.heldWrite page offset data (WriteWait.line q) }) := by
  refine ⟨
      ⟨{ running with groups := { groupsOf [group 5 .ambient .gathering] .none with idleTimer := .running 0 } },
       group 5 .ambient .gathering, ?_⟩,
      ⟨{ nearlyFull with
        groups :=
          { groupsOf [group 5 .ambient .gathering] .deferred with
            idleTimer := .running 0
            sealWaits := true
            openingWaits := true } }, group 5 .ambient .gathering, ?_⟩,
      ⟨{ running with
        upstream := accessAt false (.heldWrite 700 3 7#8 (.line 5))
        groups :=
          { groupsOf [group 1 .explicit .applying, group 5 .ambient .gathering] .none with
            idleTimer := .running 0 } }, group 5 .ambient .gathering, 700, 3, 0x07#8, 5, ?_⟩,
      ⟨running, Mode.running, ?_⟩,
      ⟨{ full with groups := groupsOf [group 5 .ambient .gathering] .none }, Mode.running, group 5 .ambient
        .gathering, ?_⟩,
      ⟨{ running with
        groups :=
          { groupsOf [group 5 .ambient .gathering] .none with idleTimer := .running 0, sealWaits := true } },
       Mode.running, group 5 .ambient .gathering, ?_⟩,
      ⟨{ full with
        upstream := { accessAt false (.heldWrite 700 3 7#8 (.line 5)) with waitTimer := .running 0 }
        groups :=
          { groupsOf [group 1 .explicit .applying, group 5 .ambient .gathering] .none with
            idleTimer := .running 0 } }, Mode.running, group 5 .ambient .gathering, 700, 3, 0x07#8, 5, ?_⟩⟩
  all_goals
    repeat'
      first
      | decide +kernel
      | refine And.intro ?_ ?_

theorem test_witness_OutcomesArePulsed :
    (∃ (s : State) (e : OutcomeEntry) (rest : List OutcomeEntry), s.outcomes.pulse = Pulse.idle ∧
      s.outcomes.queue = e :: rest ∧ e.result ≠ OutcomeResult.pending) ∧
    (∃ (s : State) (durable : Bool), s.outcomes.pulse = Pulse.setup durable) ∧
    (∃ (s : State) (durable : Bool), s.outcomes.pulse = Pulse.high durable) ∧
    (∃ (s : State) (e : OutcomeEntry) (rest : List OutcomeEntry), s.outcomes.queue = e :: rest ∧
      e.result = OutcomeResult.pending) := by
  refine ⟨
      ⟨{ running with outcomes := { Outcomes.start with queue := [{ result := .lost, owner := .dropped }] } },
       { result := OutcomeResult.lost, owner := OutcomeOwner.dropped }, [], ?_⟩,
      ⟨{ nearlyFull with outcomes := { Outcomes.start with pulse := .setup true } }, true, ?_⟩,
      ⟨{ running with outcomes := { Outcomes.start with pulse := .high true } }, true, ?_⟩,
      ⟨{ running with outcomes := { Outcomes.start with queue := [{ result := .pending, owner := .group 5 }] } },
       { result := OutcomeResult.pending, owner := OutcomeOwner.group 5 }, [], ?_⟩⟩
  all_goals decide +kernel

theorem test_witness_AccessBeginsAndEnds :
    (∃ (s : State), s.awake = true ∧ s.upstream.access = none ∧ s.control.mode ≠ some Mode.dozing) ∧
    (∃ (s : State), s.control.mode = some Mode.dozing ∧ s.upstream.access = none) ∧
    (∃ (s : State) (e : Bool), s.upstream.access = some { explicit := e, stage := AccessStage.begun }) ∧
    (∃ (s : State), s.awake = true ∧ s.upstream.access = none) := by
  refine ⟨
      ⟨full, ?_⟩,
      ⟨{ full with control := { running.control with mode := some .dozing } }, ?_⟩,
      ⟨{ running with upstream := { accessAt true .begun with buffer := some { page := 700, data := [7#8] } } }, true, ?_⟩,
      ⟨running, ?_⟩⟩
  all_goals decide +kernel

theorem test_witness_WritesAreStaged :
    (∃ (s : State) (address : Address) (q : Nat),
      (s.control.mode = some Mode.running ∨ s.control.mode = some Mode.draining) ∧
      s.upstream.access = some { explicit := true, stage := AccessStage.begun } ∧
      s.config.isReserved (pageOf address) = false ∧ s.config.isProtected (pageOf address) = false ∧
      s.groups.current = Current.opened q ∧ s.gathering = none ∧ s.ownsLine q (pageOf address) = true) ∧
    (∃ (s : State) (address : Address) (q : Nat),
      (s.control.mode = some Mode.running ∨ s.control.mode = some Mode.draining) ∧
      s.upstream.access = some { explicit := true, stage := AccessStage.begun } ∧
      s.config.isReserved (pageOf address) = false ∧ s.config.isProtected (pageOf address) = false ∧
      s.groups.current = Current.opened q ∧ s.gathering = none ∧ s.ownsLine q (pageOf address) = false ∧
      s.lineCount q < s.config.quotaExplicit ∧ s.lines.length < 32) ∧
    (∃ (s : State) (address : Address) (g : Group), s.control.mode = some Mode.running ∧
      s.upstream.access = some { explicit := false, stage := AccessStage.begun } ∧
      s.config.isReserved (pageOf address) = false ∧ s.config.isProtected (pageOf address) = false ∧
      s.gathering = some g ∧ s.ownsLine g.sequence (pageOf address) = true) ∧
    (∃ (s : State) (address : Address) (g : Group), s.control.mode = some Mode.running ∧
      s.upstream.access = some { explicit := false, stage := AccessStage.begun } ∧
      s.config.isReserved (pageOf address) = false ∧ s.config.isProtected (pageOf address) = false ∧ s.GroupsLaw ∧
      s.gathering = some g ∧ s.ownsLine g.sequence (pageOf address) = false ∧ s.lines.length < 32) ∧
    (∃ (s : State) (address : Address), s.control.mode = some Mode.running ∧
      s.upstream.access = some { explicit := false, stage := AccessStage.begun } ∧
      s.config.isReserved (pageOf address) = false ∧ s.config.isProtected (pageOf address) = false ∧ s.GroupsLaw ∧
      s.TableLaw ∧ s.gathering = none ∧ s.groups.table.length < 8 ∧ s.groups.nextSequence < 2 ^ 48 - 1 ∧
      s.lines.length < 32) := by
  refine ⟨
      ⟨{ running with
        upstream := accessAt true .begun
        groups := groupsOf [group 1 .explicit .applying, group 5 .explicit .opened] (.opened 5)
        lines := [lineOf 5 700] }, 0x0af20#20, 5, ?_⟩,
      ⟨{ nearlyFull with
        upstream := { accessAt true .begun with buffer := some { page := 700, data := [7#8] } }
        groups := { groupsOf [] .none with current := .opened 5, noted := [.assertion] } }, 0x0e5df#20, 5, ?_⟩,
      ⟨{ full with
        upstream := accessAt false .begun
        groups :=
          { groupsOf [group 1 .explicit .applying, group 5 .ambient .gathering] .none with idleTimer := .running 0 }
        lines := [lineOf 5 701] }, 0x0af41#20,
       { sequence := 5, kind := GroupKind.ambient, state := GroupState.gathering }, ?_⟩,
      ⟨{ nearlyFull with
        upstream := accessAt false .begun
        groups := groupsOf [group 1 .explicit .applying, group 5 .ambient .gathering] .none }, 0x0e243#20,
       { sequence := 5, kind := GroupKind.ambient, state := GroupState.gathering }, ?_⟩,
      ⟨{ nearlyFull with upstream := accessAt false .begun }, 0x0e511#20, ?_⟩⟩
  all_goals
    repeat'
      first
      | decide +kernel
      | exact State.groupsLaw_of_check (by decide +kernel) (by decide) (by decide +kernel)
      | exact State.tableLaw_of_check (by decide +kernel)
      | refine And.intro ?_ ?_

theorem test_witness_WritesAreHeldAndGoOn :
    (∃ (s : State) (e : Bool) (address : Address) (q : Nat),
      (s.control.mode = some Mode.running ∨ s.control.mode = some Mode.draining ∧ e = true) ∧
      s.upstream.access = some { explicit := e, stage := AccessStage.begun } ∧
      s.config.isReserved (pageOf address) = false ∧ s.config.isProtected (pageOf address) = false ∧ e = true ∧
      s.groups.current = Current.opened q ∧ s.ownsLine q (pageOf address) = false ∧
      s.lineCount q < s.config.quotaExplicit ∧ 32 ≤ s.lines.length) ∧
    (∃ (s : State) (e : Bool) (address : Address),
      (s.control.mode = some Mode.running ∨ s.control.mode = some Mode.draining ∧ e = true) ∧
      s.upstream.access = some { explicit := e, stage := AccessStage.begun } ∧
      s.config.isReserved (pageOf address) = false ∧ s.config.isProtected (pageOf address) = false ∧ e = true ∧
      s.groups.current = Current.deferred) ∧
    (∃ (s : State) (e : Bool) (address : Address) (g : Group),
      (s.control.mode = some Mode.running ∨ s.control.mode = some Mode.draining ∧ e = true) ∧
      s.upstream.access = some { explicit := e, stage := AccessStage.begun } ∧
      s.config.isReserved (pageOf address) = false ∧ s.config.isProtected (pageOf address) = false ∧ e = false ∧
      s.GroupsLaw ∧ s.gathering = some g ∧ s.ownsLine g.sequence (pageOf address) = false ∧ 32 ≤ s.lines.length) ∧
    (∃ (s : State) (e : Bool) (address : Address),
      (s.control.mode = some Mode.running ∨ s.control.mode = some Mode.draining ∧ e = true) ∧
      s.upstream.access = some { explicit := e, stage := AccessStage.begun } ∧
      s.config.isReserved (pageOf address) = false ∧ s.config.isProtected (pageOf address) = false ∧ e = false ∧
      s.GroupsLaw ∧ s.TableLaw ∧ s.gathering = none ∧ s.groups.nextSequence < 2 ^ 48 - 1 ∧
      s.groups.table.length < 8 ∧ 32 ≤ s.lines.length) ∧
    (∃ (s : State) (e : Bool) (address : Address),
      (s.control.mode = some Mode.running ∨ s.control.mode = some Mode.draining ∧ e = true) ∧
      s.upstream.access = some { explicit := e, stage := AccessStage.begun } ∧
      s.config.isReserved (pageOf address) = false ∧ s.config.isProtected (pageOf address) = false ∧ e = false ∧
      s.gathering = none ∧ s.groups.nextSequence < 2 ^ 48 - 1 ∧ 8 ≤ s.groups.table.length) ∧
    (∃ (s : State) (e : Bool) (page : Nat) (offset : Nat) (data : Byte) (q : Nat), s.takesEdges = true ∧
      s.upstream.access = some { explicit := e, stage := AccessStage.heldWrite page offset data (WriteWait.line q) } ∧
      s.lines.length < 32) ∧
    (∃ (s : State) (e : Bool) (page : Nat) (offset : Nat) (data : Byte) (q : Nat),
      s.upstream.access = some { explicit := e, stage := AccessStage.heldWrite page offset data (WriteWait.line q) } ∧
      32 ≤ s.lines.length) ∧
    (∃ (s : State) (e : Bool) (page : Nat) (offset : Nat) (data : Byte), s.TableLaw ∧ s.takesEdges = true ∧
      s.control.mode ≠ some Mode.halted ∧
      s.upstream.access = some { explicit := e, stage := AccessStage.heldWrite page offset data WriteWait.entry } ∧
      s.groups.table.length < 8 ∧ s.groups.nextSequence < 2 ^ 48 - 1) ∧
    (∃ (s : State), s.takesEdges = true ∧ s.control.mode ≠ some Mode.halted ∧ s.groups.current = Current.deferred ∧
      s.groups.openingWaits = false ∧ s.upstream.access = none ∧ s.groups.table.length < 8 ∧
      s.groups.nextSequence < 2 ^ 48 - 1) ∧
    (∃ (s : State) (e : Bool) (page : Nat) (offset : Nat) (data : Byte), s.TableLaw ∧ s.takesEdges = true ∧
      s.control.mode ≠ some Mode.halted ∧ s.groups.current = Current.deferred ∧ s.groups.openingWaits = false ∧
      s.upstream.access = some { explicit := e, stage := AccessStage.heldWrite page offset data WriteWait.opening } ∧
      s.gathering = none ∧ s.groups.table.length < 8 ∧ s.groups.nextSequence < 2 ^ 48 - 1 ∧ s.lines.length < 32 ∧
      (∀ (l : Line), l ∈ s.lines → l.owner ≠ s.groups.nextSequence) ∧ 1 ≤ s.config.quotaExplicit) ∧
    (∃ (s : State), 8 ≤ s.groups.table.length ∨ s.control.mode = some Mode.halted) := by
  refine ⟨
      ⟨{ full with
        upstream := accessAt true .begun
        groups := { groupsOf [group 5 .explicit .opened] (.opened 5) with noted := [.release true] } }, true, 0x0b669#20,
       5, ?_⟩,
      ⟨{ running with
        upstream := { accessAt true .begun with buffer := some { page := 700, data := [7#8] } }
        groups := { groupsOf [] .deferred with openingWaits := true } }, true, 0x0b111#20, ?_⟩,
      ⟨{ full with
        upstream := accessAt false .begun
        groups :=
          { groupsOf [group 1 .explicit .applying, group 5 .ambient .gathering] .none with
            idleTimer := .running 0 } }, false, 0x0b65e#20, group 5 .ambient .gathering, ?_⟩,
      ⟨{ full with
        upstream := accessAt false .begun
        groups :=
          { groupsOf (group 1 .explicit .applying :: (List.range 6).map fun k => group (k + 2) .explicit .durable)
              .none with
            nextSequence := 2 ^ 48 - 2 } }, false, 0x0b65e#20, ?_⟩,
      ⟨{ running with
        upstream := accessAt false .begun
        groups :=
          { groupsOf ((List.range 8).map fun k => group k .explicit .sealed) .deferred with
            nextSequence := 2 ^ 48 - 2 } }, false, 0x0b60b#20, ?_⟩,
      ⟨{ nearlyFull with
        upstream := { accessAt true (.heldWrite 700 3 7#8 (.line 5)) with waitTimer := .running 0 } }, true, 700, 3,
       0x07#8, 5, ?_⟩,
      ⟨{ full with upstream := accessAt false (.heldWrite 700 3 7#8 (.line 5)) }, false, 700, 3, 0x07#8, 5, ?_⟩,
      ⟨{ running with
        upstream := { accessAt true (.heldWrite 700 3 7#8 .entry) with waitTimer := .running 0 }
        groups :=
          { groupsOf ((List.range 7).map fun k => group k .explicit .sealed) .deferred with
            nextSequence := 2 ^ 48 - 2 } }, true, 700, 3, 0x07#8, ?_⟩,
      ⟨{ running with
        groups :=
          { groupsOf ((List.range 7).map fun k => group k .explicit .sealed) .deferred with
            nextSequence := 2 ^ 48 - 2 } }, ?_⟩,
      ⟨{ running with
        upstream := accessAt true (.heldWrite 700 3 7#8 .opening)
        groups :=
          { groupsOf ((List.range 7).map fun k => group k .explicit .sealed) .deferred with
            nextSequence := 2 ^ 48 - 2 }
        lines := lineOf 5 701 :: (List.range 30).map fun k => lineOf 6 (900 + k) }, true, 700, 3, 0x07#8, ?_⟩,
      ⟨{ running with
        groups :=
          { groupsOf ((List.range 8).map fun k => group k .explicit .sealed) .none with
            nextSequence := 2 ^ 48 - 2 } }, ?_⟩⟩
  all_goals
    repeat'
      first
      | decide +kernel
      | exact State.groupsLaw_of_check (by decide +kernel) (by decide) (by decide +kernel)
      | exact State.tableLaw_of_check (by decide +kernel)
      | refine And.intro ?_ ?_

theorem test_witness_WritesAreRefused :
    (∃ (s : State) (address : Address), (s.control.mode = some Mode.running ∨ s.control.mode = some Mode.draining) ∧
      s.upstream.access = some { explicit := true, stage := AccessStage.begun } ∧
      s.config.isReserved (pageOf address) = false ∧ s.config.isProtected (pageOf address) = false ∧
      (s.groups.current = Current.none ∨ s.groups.current = Current.refused ∨ ∃ (x : Option Nat), s.groups.current =
         Current.lost x)) ∧
    (∃ (s : State) (address : Address) (q : Nat),
      (s.control.mode = some Mode.running ∨ s.control.mode = some Mode.draining) ∧
      s.upstream.access = some { explicit := true, stage := AccessStage.begun } ∧
      s.config.isReserved (pageOf address) = false ∧ s.config.isProtected (pageOf address) = false ∧ s.GroupsLaw ∧
      s.groups.current = Current.opened q ∧ s.ownsLine q (pageOf address) = false ∧
      s.config.quotaExplicit ≤ s.lineCount q) ∧
    (∃ (s : State) (e : Bool) (address : Address) (reason : RefusalReason),
      s.upstream.access = some { explicit := e, stage := AccessStage.begun } ∧
      s.portRefuses e (pageOf address) = some reason ∧
      (e = false ∨ s.groups.current = Current.none ∨ s.groups.current = Current.refused ∨ ∃ (x : Option Nat),
         s.groups.current = Current.lost x)) ∧
    (∃ (s : State) (e : Bool) (address : Address) (reason : RefusalReason) (q : Nat),
      s.upstream.access = some { explicit := e, stage := AccessStage.begun } ∧
      s.portRefuses e (pageOf address) = some reason ∧ e = true ∧ s.groups.current = Current.opened q) ∧
    (∃ (s : State) (e : Bool) (address : Address) (reason : RefusalReason),
      s.upstream.access = some { explicit := e, stage := AccessStage.begun } ∧
      s.portRefuses e (pageOf address) = some reason ∧ e = true ∧ s.groups.current = Current.deferred) ∧
    (∃ (s : State) (e : Bool), s.control.mode = some Mode.starting ∧
      s.upstream.access = some { explicit := e, stage := AccessStage.begun }) ∧
    (∃ (s : State) (e : Bool) (address : Address), s.control.mode = some Mode.running ∧
      s.upstream.access = some { explicit := e, stage := AccessStage.begun } ∧ e = false ∧
      s.config.isReserved (pageOf address) = false ∧ s.config.isProtected (pageOf address) = false ∧
      s.gathering = none ∧ 2 ^ 48 - 1 ≤ s.groups.nextSequence) := by
  refine ⟨
      ⟨{ running with upstream := { accessAt true .begun with buffer := some { page := 700, data := [7#8] } } },
       0x0af03#20, ?_⟩,
      ⟨{ running with
        upstream := { accessAt true .begun with buffer := some { page := 700, data := [7#8] } }
        groups := { groupsOf [group 5 .explicit .opened] (.opened 5) with noted := [.release true] }
        lines := [lineOf 5 700, lineOf 5 701] }, 0xe4147#20, 5, ?_⟩,
      ⟨{ running with upstream := { accessAt true .begun with buffer := some { page := 700, data := [7#8] } } }, true,
       0x3e863#20, RefusalReason.reservedPage, ?_⟩,
      ⟨{ running with upstream := accessAt true .begun, groups := groupsOf [] (.opened 5) }, true, 0x3e85d#20,
       RefusalReason.reservedPage, 5, ?_⟩,
      ⟨{ running with
        control := { running.control with mode := some .halted, retrying := true, retryOwner := some .startUp }
        upstream := { accessAt true .begun with buffer := some { page := 700, data := [7#8] } }
        groups := { groupsOf [] .deferred with openingWaits := true } }, true, 0x0af03#20, RefusalReason.mode, ?_⟩,
      ⟨{ running with
        control := { running.control with mode := some .starting }
        upstream := accessAt true .begun }, true, ?_⟩,
      ⟨{ running with
        upstream := accessAt false .begun
        groups := { groupsOf [] .none with nextSequence := 2 ^ 48 - 1 } }, false, 0x0af03#20, ?_⟩⟩
  all_goals
    repeat'
      first
      | decide +kernel
      | exact State.groupsLaw_of_check (by decide +kernel) (by decide) (by decide +kernel)
      | (right; left; decide)
      | (left; rfl)
      | refine And.intro ?_ ?_

theorem test_witness_ReadsAreServed :
    (∃ (s : State) (e : Bool) (address : Address), s.servesReads ∧
      s.upstream.access = some { explicit := e, stage := AccessStage.begun } ∧ s.NothingWaits ∧
      s.config.isReserved (pageOf address) = true) ∧
    (∃ (s : State) (e : Bool) (address : Address) (b : Byte), s.servesReads ∧
      s.upstream.access = some { explicit := e, stage := AccessStage.begun } ∧ s.NothingWaits ∧
      s.config.isReserved (pageOf address) = false ∧ s.forward (pageOf address) (offsetOf address) = some b) ∧
    (∃ (s : State) (e : Bool) (address : Address) (data : PageBytes), s.servesReads ∧
      s.upstream.access = some { explicit := e, stage := AccessStage.begun } ∧ s.NothingWaits ∧
      s.config.isReserved (pageOf address) = false ∧ s.forward (pageOf address) (offsetOf address) = none ∧
      s.upstream.buffer = some { page := pageOf address, data := data }) ∧
    (∃ (s : State) (e : Bool) (address : Address), s.servesReads ∧
      s.upstream.access = some { explicit := e, stage := AccessStage.begun } ∧ s.NothingWaits ∧
      s.config.isReserved (pageOf address) = false ∧ s.forward (pageOf address) (offsetOf address) = none ∧
      ∀ (b : ReadBuffer), s.upstream.buffer = some b → b.page ≠ pageOf address) ∧
    (∃ (s : State) (e : Bool), s.upstream.access = some { explicit := e, stage := AccessStage.begun } ∧
      s.NothingWaits ∧ s.control.mode = some Mode.starting) ∧
    (∃ (s : State) (e : Bool), s.upstream.access = some { explicit := e, stage := AccessStage.begun } ∧
      s.NothingWaits ∧ s.control.mode = some Mode.halted ∧ s.boot.step ≠ BootStep.idle) ∧
    (∃ (s : State) (e : Bool) (address : Address),
      s.upstream.access = some { explicit := e, stage := AccessStage.begun } ∧ s.NothingWaits ∧
      s.control.mode = some Mode.holdup ∧ s.config.isReserved (pageOf address) = true) ∧
    (∃ (s : State) (e : Bool) (address : Address) (b : Byte),
      s.upstream.access = some { explicit := e, stage := AccessStage.begun } ∧ s.NothingWaits ∧
      s.control.mode = some Mode.holdup ∧ s.config.isReserved (pageOf address) = false ∧
      s.forward (pageOf address) (offsetOf address) = some b) ∧
    (∃ (s : State) (e : Bool) (address : Address) (data : PageBytes),
      s.upstream.access = some { explicit := e, stage := AccessStage.begun } ∧ s.NothingWaits ∧
      s.control.mode = some Mode.holdup ∧ s.config.isReserved (pageOf address) = false ∧
      s.forward (pageOf address) (offsetOf address) = none ∧
      s.upstream.buffer = some { page := pageOf address, data := data }) ∧
    (∃ (s : State) (e : Bool) (address : Address),
      s.upstream.access = some { explicit := e, stage := AccessStage.begun } ∧ s.NothingWaits ∧
      s.control.mode = some Mode.holdup ∧ s.config.isReserved (pageOf address) = false ∧
      s.forward (pageOf address) (offsetOf address) = none ∧
      ∀ (b : ReadBuffer), s.upstream.buffer = some b → b.page ≠ pageOf address) := by
  refine ⟨
      ⟨{ running with upstream := { accessAt true .begun with buffer := some { page := 700, data := [7#8] } } }, true,
       0x3e86f#20, ?_⟩,
      ⟨{ nearlyFull with
        upstream := { accessAt true .begun with buffer := some { page := 700, data := [7#8] } } }, true, 0x0e343#20,
       0x07#8, ?_⟩,
      ⟨{ nearlyFull with
        upstream := { accessAt true .begun with buffer := some { page := 700, data := [7#8] } } }, true, 0x0af03#20,
       [0x07#8], ?_⟩,
      ⟨{ running with upstream := accessAt false .begun }, false, 0x0af2e#20, ?_⟩,
      ⟨{ scanning [] with upstream := accessAt true .begun }, true, ?_⟩,
      ⟨{ scanning [] with
        control := { running.control with mode := some .halted, retryOwner := some .apply }
        upstream := accessAt true .begun }, true, ?_⟩,
      ⟨{ full with control := { running.control with mode := some .holdup }, upstream := accessAt false .begun }, false,
       0xfffe1#20, ?_⟩,
      ⟨{ full with control := { running.control with mode := some .holdup }, upstream := accessAt false .begun }, false,
       0x0e283#20, 0x07#8, ?_⟩,
      ⟨{ scanning [] with
        control := { running.control with mode := some .holdup }
        upstream := { accessAt true .begun with buffer := some { page := 700, data := [7#8] } } }, true, 0x0af24#20,
       [0x07#8], ?_⟩,
      ⟨{ running with
        control := { running.control with mode := some .holdup }
        upstream := accessAt false .begun }, false, 0x0b295#20, ?_⟩⟩
  all_goals
    repeat'
      first
      | decide +kernel
      | (simp only [State.servesReads]; decide)
      | refine And.intro ?_ ?_

theorem test_witness_HeldAccessExpires :
    (∃ (c : Instr) (s : State) (e : Bool) (page : Nat) (offset : Nat) (data : Byte) (wait : WriteWait),
      (c = Instr.accessAbandoned ∨ c = Instr.waitLimitExpiry ∧ s.upstream.waitTimer.isRunning = true) ∧
      s.upstream.access = some { explicit := e, stage := AccessStage.heldWrite page offset data wait } ∧ e = false) ∧
    (∃ (c : Instr) (s : State) (e : Bool) (page : Nat) (offset : Nat) (data : Byte) (wait : WriteWait) (q : Nat),
      (c = Instr.accessAbandoned ∨ c = Instr.waitLimitExpiry ∧ s.upstream.waitTimer.isRunning = true) ∧
      s.upstream.access = some { explicit := e, stage := AccessStage.heldWrite page offset data wait } ∧ e = true ∧
      s.groups.current = Current.opened q) ∧
    (∃ (c : Instr) (s : State) (e : Bool) (page : Nat) (offset : Nat) (data : Byte) (wait : WriteWait),
      (c = Instr.accessAbandoned ∨ c = Instr.waitLimitExpiry ∧ s.upstream.waitTimer.isRunning = true) ∧
      s.upstream.access = some { explicit := e, stage := AccessStage.heldWrite page offset data wait } ∧ e = true ∧
      s.groups.current = Current.deferred) ∧
    (∃ (c : Instr) (s : State) (e : Bool) (page : Nat) (offset : Nat) (granted : Bool),
      (c = Instr.accessAbandoned ∨ c = Instr.waitLimitExpiry ∧ s.upstream.waitTimer.isRunning = true) ∧
      s.upstream.access = some { explicit := e, stage := AccessStage.heldRead page offset granted }) := by
  refine ⟨
      ⟨Instr.waitLimitExpiry,
       { running with
        upstream := { accessAt false (.heldWrite 700 3 7#8 .entry) with waitTimer := .running 0 } }, false, 700, 3,
       0x07#8, WriteWait.entry, ?_⟩,
      ⟨Instr.accessAbandoned,
       { running with
        upstream := accessAt true (.heldWrite 700 3 7#8 (.line 5))
        groups := { groupsOf [] .none with current := .opened 5, noted := [.assertion] } }, true, 700, 3, 0x07#8,
       WriteWait.line 5, 5, ?_⟩,
      ⟨Instr.waitLimitExpiry,
       { running with
        upstream := { accessAt true (.heldWrite 700 3 7#8 .entry) with waitTimer := .running 0 }
        groups := { groupsOf [] .deferred with sealWaits := true, openingWaits := true } }, true, 700, 3, 0x07#8,
       WriteWait.entry, ?_⟩,
      ⟨Instr.accessAbandoned, { running with upstream := accessAt true (.heldRead 700 3 false) }, true, 700, 3, false, ?_⟩⟩
  all_goals decide +kernel

theorem test_witness_ForwardingFindsTheYoungestByte :
    (∃ (s : State), s.LineLaw) := by
  refine
      ⟨running, ?_⟩
  all_goals
    first
    | decide +kernel
    | exact State.lineLaw_of_check (by decide +kernel)

theorem test_witness_CompletionIsInvisibleToTheHost :
    (∃ (s : State), s.LineLaw) ∧
    (∃ (s : State) (l : Line) (m : Line), s.LineLaw ∧ l ∈ s.lines ∧ (m.owner ≠ l.owner ∨ m.page ≠ l.page)) ∧
    (∃ (s : State) (l : Line) (source : Line), s.LineLaw ∧ l ∈ s.lines ∧
      s.completionSource l.owner l.page = some source ∧ source.isComplete = true) ∧
    (∃ (s : State) (l : Line) (offset : Nat), s.LineLaw ∧ l ∈ s.lines ∧ s.completionSource l.owner l.page = none ∧
      offset < 64) := by
  refine ⟨
      ⟨running, ?_⟩,
      ⟨nearlyFull, lineOf 1 928, lineOf 1 905, ?_⟩,
      ⟨{ running with
        lines := [{ owner := 1, page := 700, bytes := List.replicate 64 (some 1#8) }, lineOf 5 700] }, lineOf 5
        700, { owner := 1, page := 700, bytes := List.replicate 64 (some 1#8) }, ?_⟩,
      ⟨full, lineOf 1 906, 3, ?_⟩⟩
  all_goals
    repeat'
      first
      | decide +kernel
      | exact State.lineLaw_of_check (by decide +kernel)
      | refine And.intro ?_ ?_

/-- An operation at the start of its work, with these answers of the device to come. -/
def aboutToStart (op : Operation) (answers : List StatusFault) : State :=
  { running with port := busyPort op, device := { Device.blank with statusFaults := answers } }

theorem test_witness_ReadyCheckPassSendsTheOperation :
    (∃ (s : State) (op : Operation), s.port.inFlight = some op ∧ op.phase = .start ∧ s.device.ShowsBusy) ∧
    (∃ (s : State) (op : Operation), s.port.inFlight = some op ∧ op.phase = .start ∧ ¬ s.device.ShowsBusy ∧
      op.kind = .pageRead) ∧
    (∃ (s : State) (op : Operation), s.port.inFlight = some op ∧ op.phase = .start ∧ ¬ s.device.ShowsBusy ∧
      op.kind = .pageProgram ∧ s.device.afterStatus.nextFault.latchClear = false) ∧
    (∃ (s : State) (op : Operation), s.port.inFlight = some op ∧ op.phase = .start ∧ ¬ s.device.ShowsBusy ∧
      op.kind = .pageProgram ∧ s.device.afterStatus.nextFault.latchClear = true) ∧
    (∃ (s : State) (op : Operation), s.port.inFlight = some op ∧ op.phase = .readyCheck ∧ op.kind = .pageRead ∧
      s.device.program = none) ∧
    (∃ (s : State) (op : Operation) (p : DeviceProgram), s.port.inFlight = some op ∧ op.phase = .readyCheck ∧
      op.kind = .pageRead ∧ s.device.program = some p) ∧
    (∀ latchClear, ∃ (s : State) (op : Operation), s.port.inFlight = some op ∧ op.phase = .readyCheck ∧
      op.kind = .pageProgram ∧ s.device.nextFault.latchClear = latchClear ∧ s.device.program = none) ∧
    (∀ latchClear, ∃ (s : State) (op : Operation) (p : DeviceProgram), s.port.inFlight = some op ∧
      op.phase = .readyCheck ∧ op.kind = .pageProgram ∧ s.device.nextFault.latchClear = latchClear ∧
      s.device.program = some p) := by
  refine ⟨
      ⟨{ full with port := busyPort (operation .readPath .pageRead .start 0) }, operation .readPath .pageRead .start 0,
       ?_⟩,
      ⟨aboutToStart (operation .journal .pageRead .start 0) [], operation .journal .pageRead .start 0, ?_⟩,
      ⟨aboutToStart (operation .apply .pageProgram .start 2) [], operation .apply .pageProgram .start 2, ?_⟩,
      ⟨aboutToStart (operation .link .pageProgram .start 0)
        [{ busy := false, latchClear := false }, { busy := false, latchClear := true }],
       operation .link .pageProgram .start 0, ?_⟩,
      ⟨aboutToStart (operation .journal .pageRead .readyCheck 0) [], operation .journal .pageRead .readyCheck 0, ?_⟩,
      ⟨{ full with port := busyPort (operation .journal .pageRead .readyCheck 0) },
       operation .journal .pageRead .readyCheck 0, { page := 700, data := [], overrun := false }, ?_⟩,
      fun latchClear =>
        ⟨aboutToStart (operation .link .pageProgram .readyCheck 1) [{ busy := false, latchClear := latchClear }],
         operation .link .pageProgram .readyCheck 1, rfl, rfl, rfl, rfl, rfl⟩,
      fun latchClear =>
        ⟨{ full with
          port := busyPort (operation .journal .pageProgram .readyCheck 1)
          device := { full.device with statusFaults := [{ busy := false, latchClear := latchClear }] } },
         operation .journal .pageProgram .readyCheck 1, { page := 700, data := [], overrun := false }, rfl, rfl, rfl,
         rfl, rfl⟩⟩
  all_goals
    first
    | decide
    | (unfold Device.ShowsBusy; decide)

theorem test_witness_PageReadEndReachesItsRequester :
    (∃ (s : State) (op : Operation) (e : Bool) (page : Nat) (offset : Nat), s.port.inFlight = some op ∧
      op.kind = OpKind.pageRead ∧ op.phase = OpPhase.transfer ∧ op.requester = Requester.readPath ∧
      s.upstream.access = some { explicit := e, stage := AccessStage.heldRead page offset true }) ∧
    (∃ (s : State) (op : Operation), s.port.inFlight = some op ∧ op.kind = OpKind.pageRead ∧
      op.phase = OpPhase.transfer ∧ op.requester = Requester.readPath ∧ s.upstream.access = none) ∧
    (∃ (s : State) (op : Operation) (r : Record) (k : Nat) (l : Line), s.port.inFlight = some op ∧
      op.kind = OpKind.pageRead ∧ op.phase = OpPhase.transfer ∧ s.port.suspended = none ∧
      op.requester = Requester.journal ∧ s.control.mode ≠ some Mode.halted ∧ s.journal.record = some r ∧
      r.position = Position.complete k ∧ s.lineOf r.group k = some l) ∧
    (∃ (s : State) (op : Operation) (k : Nat), s.port.inFlight = some op ∧ op.kind = OpKind.pageRead ∧
      op.phase = OpPhase.transfer ∧ s.port.suspended = none ∧ op.requester = Requester.startUp ∧
      s.control.mode = some Mode.starting ∧ s.boot.step = BootStep.scan k ∧ k + 1 < s.config.length ∧
      (s.device.isUndefined (s.config.base + k) = true ∨ judgeHeader s.config (s.config.base + k)
         (s.device.readPage op.page) = none)) ∧
    (∃ (s : State) (op : Operation) (k : Nat) (h : FoundHeader) (r : StartUpRecord), s.port.inFlight = some op ∧
      op.kind = OpKind.pageRead ∧ op.phase = OpPhase.transfer ∧ s.port.suspended = none ∧
      op.requester = Requester.startUp ∧ s.control.mode = some Mode.starting ∧ s.boot.step = BootStep.scan k ∧
      k + 1 < s.config.length ∧ s.boot.record = some r ∧ s.device.isUndefined (s.config.base + k) = false ∧
      judgeHeader s.config (s.config.base + k) (s.device.readPage op.page) = some h) ∧
    (∃ (s : State) (op : Operation) (k : Nat), s.port.inFlight = some op ∧ op.kind = OpKind.pageRead ∧
      op.phase = OpPhase.transfer ∧ s.port.suspended = none ∧ op.requester = Requester.startUp ∧
      s.control.mode = some Mode.starting ∧ s.boot.step = BootStep.scan k ∧ s.config.length ≤ k + 1 ∧
      (s.device.isUndefined (s.config.base + k) = true ∨ judgeHeader s.config (s.config.base + k)
         (s.device.readPage op.page) = none)) ∧
    (∃ (s : State) (op : Operation) (k : Nat) (h : FoundHeader) (r : StartUpRecord), s.port.inFlight = some op ∧
      op.kind = OpKind.pageRead ∧ op.phase = OpPhase.transfer ∧ s.port.suspended = none ∧
      op.requester = Requester.startUp ∧ s.control.mode = some Mode.starting ∧ s.boot.step = BootStep.scan k ∧
      s.config.length ≤ k + 1 ∧ s.boot.record = some r ∧ s.device.isUndefined (s.config.base + k) = false ∧
      judgeHeader s.config (s.config.base + k) (s.device.readPage op.page) = some h) ∧
    (∃ (s : State) (op : Operation) (i : Nat) (j : Nat) (check : CheckWord) (h : FoundHeader),
      s.port.inFlight = some op ∧ op.kind = OpKind.pageRead ∧ op.phase = OpPhase.transfer ∧ s.port.suspended = none ∧
      op.requester = Requester.startUp ∧ s.control.mode = some Mode.starting ∧
      s.boot.step = BootStep.judge i j check ∧ s.boot.headers[i]? = some h ∧ j ≤ h.lines) ∧
    (∃ (s : State) (op : Operation) (i : Nat) (j : Nat) (check : CheckWord) (h : FoundHeader)
       (r : StartUpRecord) (complete : Bool) (headers : List FoundHeader),
      s.port.inFlight = some op ∧ op.kind = OpKind.pageRead ∧ op.phase = OpPhase.transfer ∧ s.port.suspended = none ∧
      op.requester = Requester.startUp ∧ s.control.mode = some Mode.starting ∧
      s.boot.step = BootStep.judge i j check ∧ s.boot.headers[i]? = some h ∧ h.lines < j ∧ s.boot.record = some r ∧
      (complete = true ↔ judgeCommit h check (s.device.readPage op.page) = true ∧
         ∀ (k : Nat), 1 ≤ k → k ≤ h.lines + 1 →
           s.device.isUndefined (s.config.base + (h.page - s.config.base + k) % s.config.length) = false) ∧
      headers = s.boot.headers.modify i fun g => { g with complete := some complete }) ∧
    (∃ (s : State) (op : Operation) (k : Nat), s.port.inFlight = some op ∧ op.kind = OpKind.pageRead ∧
      op.phase = OpPhase.transfer ∧ s.port.suspended = none ∧ op.requester = Requester.startUp ∧
      s.control.mode = some Mode.starting ∧ s.boot.step = BootStep.replayRead k) ∧
    (∃ (s : State) (i : Nat) (h : FoundHeader), s.boot.headers[i]? = some h) ∧
    (∃ (headers : List FoundHeader) (h : FoundHeader), h ∈ completeRecords headers) ∧
    (∃ (s : State), (s.control.mode = some Mode.starting ∨ s.RetryUnderWay RetryOwner.startUp) ∧
      s.boot.step = BootStep.readCopyA) ∧
    (∃ (s : State) (copyA : Option PageBytes),
      (s.control.mode = some Mode.starting ∨ s.RetryUnderWay RetryOwner.startUp) ∧
      s.boot.step = BootStep.readCopyB copyA) ∧
    (∃ (s : State) (k : Nat), (s.control.mode = some Mode.starting ∨ s.RetryUnderWay RetryOwner.startUp) ∧
      s.boot.step = BootStep.scan k) ∧
    (∃ (s : State) (i : Nat) (j : Nat) (check : CheckWord) (h : FoundHeader),
      (s.control.mode = some Mode.starting ∨ s.RetryUnderWay RetryOwner.startUp) ∧
      s.boot.step = BootStep.judge i j check ∧ s.boot.headers[i]? = some h) ∧
    (∃ (s : State) (h : FoundHeader) (rest : List FoundHeader) (k : Nat),
      (s.control.mode = some Mode.starting ∨ s.RetryUnderWay RetryOwner.startUp) ∧ s.boot.toReplay = h :: rest ∧
      s.boot.step = BootStep.replayRead k) ∧
    (∃ (s : State) (h : FoundHeader) (rest : List FoundHeader) (k : Nat) (image : PageBytes) (page : Nat),
      (s.control.mode = some Mode.starting ∨ s.RetryUnderWay RetryOwner.startUp) ∧ s.boot.toReplay = h :: rest ∧
      s.boot.step = BootStep.replayProgram k image ∧ h.pages[k - 1]? = some page) ∧
    (∃ (s : State), (s.control.mode = some Mode.starting ∨ s.RetryUnderWay RetryOwner.startUp) ∧
      (s.boot.step = BootStep.idle ∨ s.boot.step = BootStep.pfiWait ∨ s.boot.step = BootStep.waking)) ∧
    (∃ (s : State), s.control.mode ≠ some Mode.starting ∧ ¬s.RetryUnderWay RetryOwner.startUp) := by
  refine ⟨
      ⟨{ running with
        upstream := { accessAt false (.heldRead 700 3 true) with waitTimer := .running 0 }
        port := busyPort (operation .readPath .pageRead .transfer 1) }, operation .readPath .pageRead .transfer
        1, false, 700, 3, ?_⟩,
      ⟨{ scanning [] with
        port :=
          { busyPort (operation .readPath .pageRead .transfer 0) with
            suspended := some (operation .apply .pageProgram .start 1) } }, operation .readPath .pageRead .transfer
        0, ?_⟩,
      ⟨{ running with
        lines := (List.range 22).map fun k => lineOf 5 (900 + k)
        journal := { running.journal with record := some (recordAt (.complete 1)) }
        port := busyPort (operation .journal .pageRead .transfer 1) }, operation .journal .pageRead .transfer 1,
       recordAt (.complete 1), 1, lineOf 5 900, ?_⟩,
      ⟨scanning [], operation .startUp .pageRead .transfer 0, 30, ?_⟩,
      ⟨scanning testHeader, operation .startUp .pageRead .transfer 0, 30,
       {
        page := 4030
        sequence := 5
        lines := 1
        retiredThrough := 2
        pages := [700]
        check := 0xb1b53a39#32
        complete := none }, .opened .powerOn .none, ?_⟩,
      ⟨{ scanning [] with boot := { running.boot with step := .scan 31 } }, operation .startUp .pageRead .transfer
        0, 31, ?_⟩,
      ⟨{ scanning testHeader with
        boot := { running.boot with headers := [foundHeader 1 [700] none], step := .scan 31 } },
       operation .startUp .pageRead .transfer 0, 31,
       {
        page := 4031
        sequence := 5
        lines := 1
        retiredThrough := 2
        pages := [700]
        check := 0xb1b53a39#32
        complete := none }, .opened .powerOn .none, ?_⟩,
      ⟨{ scanning [] with
        boot := { running.boot with headers := [foundHeader 1 [700] none], step := .judge 0 1 0#32 } },
       operation .startUp .pageRead .transfer 0, 0, 1, 0#32, foundHeader 1 [700] none, ?_⟩,
      ⟨{ scanning [] with
        boot := { running.boot with headers := [foundHeader 1 [700] none], step := .judge 0 2 0#32 } },
       operation .startUp .pageRead .transfer 0, 0, 2, 0#32, foundHeader 1 [700] none, .opened .powerOn .none, false,
       [foundHeader 1 [700] (some false)], ?_⟩,
      ⟨{ scanning [] with
        boot := { running.boot with step := .replayRead 1, toReplay := [foundHeader 1 [700] (some true)] } },
       operation .startUp .pageRead .transfer 0, 1, ?_⟩,
      ⟨{ full with
        boot := { running.boot with headers := [foundHeader 1 [700] none], step := .judge 0 1 0#32 } }, 0,
       foundHeader 1 [700] none, ?_⟩,
      ⟨[foundHeader 1 [700] (some true)], foundHeader 1 [700] (some true), ?_⟩,
      ⟨{ scanning [] with boot := { running.boot with active := none, step := .readCopyA } }, ?_⟩,
      ⟨{ scanning testHeader with
        boot := { running.boot with active := none, step := .readCopyB (some testImage) } }, some testImage, ?_⟩,
      ⟨scanning [], 30, ?_⟩,
      ⟨{ scanning [] with
        boot := { running.boot with headers := [foundHeader 1 [700] none], step := .judge 0 3 0#32 } }, 0, 3, 0#32,
       foundHeader 1 [700] none, ?_⟩,
      ⟨{ scanning [] with
        boot :=
          { running.boot with step := .replayRead 1, toReplay := [foundHeader 2 [700, 701] (some true)] } },
       foundHeader 2 [700, 701] (some true), [], 1, ?_⟩,
      ⟨{ scanning testHeader with
        boot :=
          { running.boot with
            step := .replayProgram 1 [7#8]
            toReplay := [foundHeader 2 [700, 701] (some true)] } }, foundHeader 2 [700, 701] (some true), [], 1,
       [0x07#8], 700, ?_⟩,
      ⟨{ scanning testHeader with
        boot := { running.boot with record := some { StartUpRecord.opened .powerOn .none with copy := .a } } }, ?_⟩,
      ⟨running, ?_⟩⟩
  all_goals
    first
    | decide +kernel
    | (simp only [State.RetryUnderWay]; decide +kernel)

theorem test_witness_PassedProgramsAdvanceTheirEngines :
    (∃ (s : State) (op : Operation) (p : DeviceProgram) (c : Cursor), s.port.inFlight = some op ∧
      op.kind = OpKind.pageProgram ∧ op.phase = OpPhase.transfer ∧ s.port.suspended = none ∧
      s.device.program = some p ∧
      (s.control.mode = some Mode.running ∨ s.control.mode = some Mode.draining ∨ s.control.mode = some Mode.holdup) ∧
      op.requester = Requester.apply ∧ s.cursor = some c ∧ c.line < s.lineCount c.group) ∧
    (∃ (s : State) (op : Operation) (p : DeviceProgram) (r : Record), s.port.inFlight = some op ∧
      op.kind = OpKind.pageProgram ∧ op.phase = OpPhase.transfer ∧ s.port.suspended = none ∧
      s.device.program = some p ∧
      (s.control.mode = some Mode.running ∨ s.control.mode = some Mode.draining ∨ s.control.mode = some Mode.holdup) ∧
      op.requester = Requester.journal ∧ s.journal.record = some r ∧ r.position = Position.header) ∧
    (∃ (s : State) (op : Operation) (p : DeviceProgram) (r : Record) (k : Nat) (l : Line), s.port.inFlight = some op ∧
      op.kind = OpKind.pageProgram ∧ op.phase = OpPhase.transfer ∧ s.port.suspended = none ∧
      s.device.program = some p ∧
      (s.control.mode = some Mode.running ∨ s.control.mode = some Mode.draining ∨ s.control.mode = some Mode.holdup) ∧
      op.requester = Requester.journal ∧ s.journal.record = some r ∧ r.position = Position.program k ∧
      s.lineOf r.group k = some l) ∧
    (∃ (s : State) (op : Operation) (p : DeviceProgram) (r : Record), s.port.inFlight = some op ∧
      op.kind = OpKind.pageProgram ∧ op.phase = OpPhase.transfer ∧ op.requester = Requester.journal ∧
      s.port.suspended = none ∧ s.device.program = some p ∧
      (s.control.mode = some Mode.running ∨ s.control.mode = some Mode.draining ∨ s.control.mode = some Mode.holdup) ∧
      s.journal.record = some r ∧ r.position = Position.commit) ∧
    (∃ (s : State) (op : Operation) (p : DeviceProgram) (c : Cursor), s.port.inFlight = some op ∧
      op.kind = OpKind.pageProgram ∧ op.phase = OpPhase.transfer ∧ op.requester = Requester.apply ∧
      s.port.suspended = none ∧ s.device.program = some p ∧
      (s.control.mode = some Mode.running ∨ s.control.mode = some Mode.draining ∨ s.control.mode = some Mode.holdup) ∧
      s.cursor = some c ∧ s.lineCount c.group ≤ c.line) ∧
    (∃ (s : State) (op : Operation) (p : DeviceProgram) (k : Nat) (image : PageBytes) (h : FoundHeader)
       (rest : List FoundHeader) (r : StartUpRecord),
      s.port.inFlight = some op ∧ op.kind = OpKind.pageProgram ∧ op.phase = OpPhase.transfer ∧
      op.requester = Requester.startUp ∧ s.port.suspended = none ∧ s.device.program = some p ∧
      s.control.mode = some Mode.starting ∧ s.boot.step = BootStep.replayProgram k image ∧
      s.boot.toReplay = h :: rest ∧ s.boot.record = some r ∧ k < h.lines) ∧
    (∃ (s : State) (op : Operation) (p : DeviceProgram) (k : Nat) (image : PageBytes) (h : FoundHeader)
       (rest : List FoundHeader) (r : StartUpRecord),
      s.port.inFlight = some op ∧ op.kind = OpKind.pageProgram ∧ op.phase = OpPhase.transfer ∧
      op.requester = Requester.startUp ∧ s.port.suspended = none ∧ s.device.program = some p ∧
      s.control.mode = some Mode.starting ∧ s.boot.step = BootStep.replayProgram k image ∧
      s.boot.toReplay = h :: rest ∧ s.boot.record = some r ∧ h.lines ≤ k) := by
  refine ⟨
      ⟨{ nearlyFull with
        control := { running.control with mode := some .holdup }
        lines := (List.range 32).map fun k => lineOf 1 (900 + k) },
       operation .apply .pageProgram .transfer 1, { page := 700, data := [], overrun := false },
       { group := 1, line := 31 }, ?_⟩,
      ⟨{ running with
        control := { running.control with mode := some .holdup }
        journal := { running.journal with record := some (recordAt .header) }
        port := busyPort (operation .journal .pageProgram .transfer 1)
        device := { Device.blank with program := some { page := 700, data := [7#8], overrun := true } } },
       operation .journal .pageProgram .transfer 1, { page := 700, data := [0x07#8], overrun := true }, recordAt
        .header, ?_⟩,
      ⟨{ full with
        lines := [lineOf 5 700]
        journal := { running.journal with record := some (recordAt (.program 1)) }
        port := busyPort (operation .journal .pageProgram .transfer 1) }, operation .journal .pageProgram .transfer
        1, { page := 700, data := [], overrun := false }, recordAt (.program 1), 1, lineOf 5 700, ?_⟩,
      ⟨{ full with
        journal := { running.journal with record := some (recordAt .commit) }
        port := busyPort (operation .journal .pageProgram .transfer 1) }, operation .journal .pageProgram .transfer
        1, { page := 700, data := [], overrun := false }, recordAt .commit, ?_⟩,
      ⟨full, operation .apply .pageProgram .transfer 1, { page := 700, data := [], overrun := false },
       { group := 1, line := 32 }, ?_⟩,
      ⟨{ scanning [] with
        port := busyPort (operation .startUp .pageProgram .transfer 1)
        device := { Device.blank with program := some { page := 700, data := [7#8], overrun := true } }
        boot :=
          { running.boot with
            step := .replayProgram 1 [7#8]
            toReplay := [foundHeader 2 [700, 701] (some true)] } }, operation .startUp .pageProgram .transfer 1,
       { page := 700, data := [0x07#8], overrun := true }, 1, [0x07#8], foundHeader 2 [700, 701] (some true), [],
       .opened .powerOn .none, ?_⟩,
      ⟨{ scanning [] with
        port := busyPort (operation .startUp .pageProgram .transfer 1)
        device := { Device.blank with program := some { page := 700, data := [7#8], overrun := false } }
        boot :=
          { running.boot with step := .replayProgram 1 [7#8], toReplay := [foundHeader 1 [700] (some true)] } },
       operation .startUp .pageProgram .transfer 1, { page := 700, data := [0x07#8], overrun := false }, 1, [0x07#8],
       foundHeader 1 [700] (some true), [], .opened .powerOn .none, ?_⟩⟩
  all_goals decide +kernel

theorem test_witness_ProgramAttemptsAndTheReadBuffer :
    (∃ (s : State) (op : Operation) (p : DeviceProgram), s.port.inFlight = some op ∧ op.kind = OpKind.pageProgram ∧
      op.phase = OpPhase.transfer ∧ s.device.program = some p) ∧
    (∃ (s : State) (op : Operation), s.port.inFlight = some op ∧ op.phase = OpPhase.failed ∧ op.attempts < 3 ∧
      ∀ (q : Request), s.readRequest = some q → q.page = op.page) ∧
    (∃ (s : State) (op : Operation) (q : Request) (e : Bool) (page : Nat) (offset : Nat), s.port.inFlight = some op ∧
      op.phase = OpPhase.failed ∧ op.attempts < 3 ∧ s.readRequest = some q ∧ q.page ≠ op.page ∧
      s.control.mode ≠ some Mode.holdup ∧ s.control.mode ≠ some Mode.starting ∧
      s.upstream.access = some { explicit := e, stage := AccessStage.heldRead page offset false }) ∧
    (∃ (s : State) (op : Operation), s.port.inFlight = some op ∧ op.phase = OpPhase.failed ∧ 3 ≤ op.attempts) ∧
    (∃ (s : State) (t : State) (op : Operation) (b : ReadBuffer), s.port.inFlight = some op ∧
      op.phase = OpPhase.start ∧ s.upstream.buffer = some b ∧ s.operationStep = some t) := by
  refine ⟨
      ⟨full, operation .apply .pageProgram .transfer 1, { page := 700, data := [], overrun := false }, ?_⟩,
      ⟨{ running with port := busyPort (operation .startUp .pageProgram .failed 2) },
       operation .startUp .pageProgram .failed 2, ?_⟩,
      ⟨{ running with
        upstream := accessAt true (.heldRead 701 3 false)
        port := busyPort (operation .startUp .pageProgram .failed 2) }, operation .startUp .pageProgram .failed
        2, { kind := OpKind.pageRead, page := 701, data := [] }, true, 701, 3, ?_⟩,
      ⟨{ nearlyFull with port := busyPort (operation .link .pageProgram .failed 3) },
       operation .link .pageProgram .failed 3, ?_⟩,
      ⟨{ running with
        upstream := { Upstream.start with buffer := some { page := 701, data := [] } }
        port := busyPort (operation .readPath .pageProgram .start 1) },
       ({ running with
         upstream := { Upstream.start with buffer := some { page := 701, data := [] } }
         port := busyPort (operation .readPath .pageProgram .start 1) }).operationStep.getD
        running, operation .readPath .pageProgram .start 1, { page := 701, data := [] }, ?_⟩⟩
  all_goals decide +kernel

/-- An apply program that runs, with its timer at its end, or whose third attempt has failed. -/
def failingProgram (timeout : Bool) : Operation :=
  operation .apply .pageProgram (if timeout then .transfer else .failed) 3

/-- A state for each clause, with the timer about to expire and with three failed attempts. -/
theorem test_witness_EngineFaultHalts (timeout : Bool) :
    let fails (s : State) (op : Operation) : Prop :=
      s.port.inFlight = some op ∧ (op.requester = .journal ∨ op.requester = .apply) ∧
        if timeout then s.port.opTimer.isRunning = true else op.phase = .failed ∧ 3 ≤ op.attempts
    let halts (s : State) (op : Operation) : Prop :=
      s.GroupLaw ∧ (s.control.mode = some .running ∨ s.control.mode = some .draining) ∧ fails s op
    (∃ s op, s.control.mode = some .holdup ∧ s.port.suspended = none ∧ fails s op) ∧
    (∃ s op, halts s op ∧ s.NoHeldWrite) ∧
    (∃ s op, halts s op ∧ ∃ page offset data wait,
      s.upstream.access = some { explicit := false, stage := .heldWrite page offset data wait }) ∧
    (∃ s op, halts s op ∧ (∃ q, s.groups.current = .opened q) ∧ ∃ page offset data wait,
      s.upstream.access = some { explicit := true, stage := .heldWrite page offset data wait }) ∧
    (∃ s op, halts s op ∧ s.groups.current = .deferred ∧ ∃ page offset data wait,
      s.upstream.access = some { explicit := true, stage := .heldWrite page offset data wait }) := by
  refine
    ⟨⟨{ full with
        control := { running.control with mode := some .holdup }
        port := busyPort (failingProgram timeout) }, failingProgram timeout, rfl, rfl, rfl, .inr rfl, ?_⟩,
      ⟨{ nearlyFull with port := busyPort (failingProgram timeout) }, failingProgram timeout, ⟨?_, .inl rfl, rfl,
        .inr rfl, ?_⟩, fun e page offset data wait h => by cases h⟩,
      ⟨{ deferredBehindAWrite with port := busyPort (failingProgram timeout) }, failingProgram timeout,
        ⟨?_, .inl rfl, rfl, .inr rfl, ?_⟩, 700, 3, 7#8, .line 5, rfl⟩,
      ⟨{ full with
         pins := { running.pins with grp := false }
         upstream := accessAt true (.heldWrite 700 3 7#8 (.line 5))
         groups := groupsOf [group 1 .explicit .applying, group 5 .explicit .opened] (.opened 5)
         port := busyPort (failingProgram timeout) }, failingProgram timeout, ⟨?_, .inl rfl, rfl, .inr rfl, ?_⟩,
        ⟨5, rfl⟩, 700, 3, 7#8, .line 5, rfl⟩,
      ⟨{ deferredForAnEntry with port := busyPort (failingProgram timeout) }, failingProgram timeout,
        ⟨?_, .inl rfl, rfl, .inr rfl, ?_⟩, rfl, 700, 3, 7#8, .opening, rfl⟩⟩
  all_goals
    first
    | (cases timeout <;> exact State.groupLawCheck_sound (by decide +kernel))
    | (cases timeout <;> decide)

theorem test_witness_OtherTimeoutsAreRecordedOrUnserved :
    (∃ (s : State) (op : Operation) (e : Bool) (page : Nat) (offset : Nat), s.port.inFlight = some op ∧
      op.requester = Requester.readPath ∧ op.kind = OpKind.pageRead ∧ s.port.opTimer.isRunning = true ∧
      s.upstream.access = some { explicit := e, stage := AccessStage.heldRead page offset true }) ∧
    (∃ (s : State) (op : Operation), s.control.mode = some Mode.starting ∧ s.port.inFlight = some op ∧
      op.requester = Requester.startUp ∧ s.port.suspended = none ∧ s.port.opTimer.isRunning = true) ∧
    (∃ (s : State) (op : Operation) (k : Nat) (image : PageBytes) (h : FoundHeader) (rest : List FoundHeader),
      s.control.mode = some Mode.starting ∧ op.requester = Requester.startUp ∧ s.port.suspended = none ∧
      s.boot.step = BootStep.replayProgram k image ∧ s.boot.toReplay = h :: rest) := by
  refine ⟨
      ⟨{ running with
        upstream := accessAt false (.heldRead 700 3 true)
        port := busyPort (operation .readPath .pageRead .transfer 1) }, operation .readPath .pageRead .transfer
        1, false, 700, 3, ?_⟩,
      ⟨{ running with
        control := { running.control with mode := some .starting }
        port := busyPort (operation .startUp .pageProgram .failed 0) }, operation .startUp .pageProgram .failed
        0, ?_⟩,
      ⟨{ nearlyFull with
        control := { running.control with mode := some .starting }
        port := busyPort (operation .startUp .pageProgram .start 2)
        boot :=
          { running.boot with step := .replayProgram 1 [7#8], toReplay := [foundHeader 1 [700] (some true)] } },
       operation .startUp .pageProgram .start 2, 1, [0x07#8], foundHeader 1 [700] (some true), [], ?_⟩⟩
  all_goals decide +kernel

theorem test_witness_ArbiterGrantsInOrder :
    (∃ (s : State), s.port.power ≠ PowerState.on ∨ s.port.inFlight ≠ none ∨ s.port.suspended ≠ none) ∧
    (∃ (s : State) (q : Request), s.port.power = PowerState.on ∧ s.port.inFlight = none ∧ s.port.suspended = none ∧
      s.readRequest = some q ∧ s.control.mode ≠ some Mode.holdup) ∧
    (∃ (s : State) (q : Request), s.port.power = PowerState.on ∧ s.port.inFlight = none ∧ s.port.suspended = none ∧
      s.readRequest = none ∧ s.journalRequest = some q ∧ (s.applyRequest = none ∨ s.port.fairness < 8)) ∧
    (∃ (s : State) (q : Request), s.port.power = PowerState.on ∧ s.port.inFlight = none ∧ s.port.suspended = none ∧
      s.readRequest = none ∧ s.applyRequest = some q ∧ (s.journalRequest = none ∨ 8 ≤ s.port.fairness)) ∧
    (∃ (s : State) (q : Request), s.port.power = PowerState.on ∧ s.port.inFlight = none ∧ s.port.suspended = none ∧
      s.readRequest = none ∧ s.journalRequest = none ∧ s.applyRequest = none ∧ s.startUpRequest = some q) ∧
    (∃ (s : State) (q : Request), s.port.power = PowerState.on ∧ s.port.inFlight = none ∧ s.port.suspended = none ∧
      s.readRequest = none ∧ s.journalRequest = none ∧ s.applyRequest = none ∧ s.startUpRequest = none ∧
      s.linkRequest = some q) ∧
    (∃ (s : State), s.port.power = PowerState.on ∧ s.port.inFlight = none ∧ s.port.suspended = none ∧
      s.readRequest = none ∧ s.journalRequest = none ∧ s.applyRequest = none ∧ s.startUpRequest = none ∧
      s.linkRequest = none) ∧
    (∃ (s : State), s.control.mode = some Mode.holdup ∧ s.readRequest.isSome = true) := by
  refine ⟨
      ⟨full, ?_⟩,
      ⟨{ running with upstream := accessAt true (.heldRead 701 3 false) },
       { kind := OpKind.pageRead, page := 701, data := [] }, ?_⟩,
      ⟨{ nearlyFull with
        journal :=
          { running.journal with
            record :=
              some
                { group := 5, firstPage := 4000, position := .header, pagesDone := 0, header := [], check := 0#32 } }
        port := { running.port with fairness := 7 } }, { kind := OpKind.pageProgram, page := 4000, data := [] }, ?_⟩,
      ⟨{ full with port := { running.port with fairness := 7 } },
       { kind := OpKind.pageProgram, page := 931, data := (List.replicate 64 0xFF#8).set 3 7#8 }, ?_⟩,
      ⟨{ running with
        control := { running.control with mode := some .starting }
        boot :=
          { running.boot with
            step := .replayRead 1
            toReplay :=
              [{
                 page := 4000
                 sequence := 3
                 lines := 1
                 retiredThrough := 2
                 pages := [700]
                 check := 0#32
                 complete := some true }] } }, { kind := OpKind.pageRead, page := 4001, data := [] }, ?_⟩,
      ⟨{ running with
        control := { running.control with mode := some .draining }
        link := { Link.start 0x2C#7 with drain := .store testFields .copy } },
       { kind := OpKind.pageProgram, page := 16382, data := composeCopy 8 6 testFields }, ?_⟩,
      ⟨running, ?_⟩,
      ⟨{ nearlyFull with
        control := { running.control with mode := some .holdup }
        upstream := { accessAt false (.heldRead 700 3 false) with waitTimer := .running 0 } }, ?_⟩⟩
  all_goals decide +kernel

theorem test_witness_FairnessCount :
    (∃ (s : State), s.applyRequest ≠ none) ∧
    (∃ (s : State), s.applyRequest = none) ∧
    (∃ (op : Operation), op.attempts < 3) ∧
    (∃ (s : State) (j : Request) (a : Request), s.port.power = PowerState.on ∧ s.port.inFlight = none ∧
      s.port.suspended = none ∧ s.port.fairness = 8 ∧ s.journalRequest = some j ∧ s.applyRequest = some a ∧
      s.readRequest = none) ∧
    (∃ (s : State) (j : Request) (a : Request) (r : Request), s.port.power = PowerState.on ∧ s.port.inFlight = none ∧
      s.port.suspended = none ∧ s.port.fairness = 8 ∧ s.journalRequest = some j ∧ s.applyRequest = some a ∧
      s.readRequest = some r) ∧
    (∃ (s : State) (j : Request), s.port.power = PowerState.on ∧ s.port.inFlight = none ∧ s.port.suspended = none ∧
      s.readRequest = none ∧ s.journalRequest = some j ∧ (s.applyRequest = none ∨ s.port.fairness < 8)) ∧
    (∃ (s : State) (t : State), s.RangeLaw ∧ step s = Host.Outcome.next t) := by
  refine ⟨
      ⟨nearlyFull, ?_⟩,
      ⟨running, ?_⟩,
      ⟨operation .startUp .pageProgram .failed 2, ?_⟩,
      ⟨{ nearlyFull with
        journal := { running.journal with record := some (recordAt .header) }
        port := { running.port with fairness := 8 } }, { kind := OpKind.pageProgram, page := 4000, data := [] },
       { kind := OpKind.pageProgram, page := 930, data := (List.replicate 64 0xFF#8).set 3 7#8 }, ?_⟩,
      ⟨{ nearlyFull with
        upstream := accessAt true (.heldRead 700 3 false)
        lines := [lineOf 5 700]
        journal := { running.journal with record := some (recordAt (.complete 1)) }
        cursor := some { group := 5, line := 1 }
        port := { running.port with fairness := 8 } }, { kind := OpKind.pageRead, page := 700, data := [] },
       { kind := OpKind.pageProgram, page := 700, data := (List.replicate 64 0xFF#8).set 3 7#8 },
       { kind := OpKind.pageRead, page := 700, data := [] }, ?_⟩,
      ⟨{ running with
        journal := { running.journal with record := some (recordAt .header) }
        port := { running.port with fairness := 7 } }, { kind := OpKind.pageProgram, page := 4000, data := [] }, ?_⟩,
      ⟨full, full.tick, ?_⟩⟩
  all_goals
    repeat'
      first
      | decide +kernel
      | rfl
      | refine And.intro ?_ ?_

theorem test_witness_EmptyGroupBecomesDurable :
    (∃ (s : State) (g : Group),
      (s.control.mode = some Mode.running ∨ s.control.mode = some Mode.draining ∨ s.control.mode = some Mode.holdup ∧
         s.journal.declined = false ∧ s.journal.stopped = false) ∧ s.turn = some g ∧ s.lineCount g.sequence = 0) := by
  refine
      ⟨{ running with groups := groupsOf [group 1 .explicit .lost, group 5 .explicit .sealed] (.lost (some 1)) },
       { sequence := 5, kind := GroupKind.explicit, state := GroupState.sealed }, ?_⟩
  all_goals decide +kernel

theorem test_witness_RecordIsAllocatedAtItsTurn :
    (∃ (s : State), s.TableLaw) ∧
    (∃ (s : State),
      s.control.mode = some Mode.halted ∨ s.control.mode = some Mode.starting ∨ s.control.mode = some Mode.bare ∨
        s.control.mode = some Mode.down ∨ s.control.mode = none) ∧
    (∃ (s : State) (g : Group) (n : Nat), s.turn = some g ∧ s.lineCount g.sequence = n ∧ 1 ≤ n ∧
      (s.control.mode = some Mode.running ∨ s.control.mode = some Mode.draining)) ∧
    (∃ (s : State) (g : Group) (n : Nat), s.turn = some g ∧ s.lineCount g.sequence = n ∧ 1 ≤ n ∧
      s.control.mode = some Mode.holdup ∧ s.journal.declined = false ∧ s.journal.stopped = false) ∧
    (∃ (s : State) (r : Record), s.journal.record = some r ∧ (s.JournalMayWork ∨ s.RetryUnderWay RetryOwner.journal) ∧
      r.position = Position.header) ∧
    (∃ (s : State) (r : Record) (k : Nat) (l : Line), s.journal.record = some r ∧
      (s.JournalMayWork ∨ s.RetryUnderWay RetryOwner.journal) ∧ r.position = Position.complete k ∧
      s.lineOf r.group k = some l ∧ s.completionSource r.group l.page = none) ∧
    (∃ (s : State) (r : Record) (k : Nat) (l : Line) (m : Line), s.journal.record = some r ∧
      (s.JournalMayWork ∨ s.RetryUnderWay RetryOwner.journal) ∧ r.position = Position.complete k ∧
      s.lineOf r.group k = some l ∧ s.completionSource r.group l.page = some m) ∧
    (∃ (s : State) (r : Record) (k : Nat) (l : Line), s.journal.record = some r ∧
      (s.JournalMayWork ∨ s.RetryUnderWay RetryOwner.journal) ∧ r.position = Position.program k ∧
      s.lineOf r.group k = some l) ∧
    (∃ (s : State) (r : Record) (n : Nat), s.journal.record = some r ∧
      (s.JournalMayWork ∨ s.RetryUnderWay RetryOwner.journal) ∧ r.position = Position.commit ∧
      s.lineCount r.group = n) ∧
    (∃ (s : State) (r : Record) (k : Nat) (l : Line) (m : Line), s.journal.record = some r ∧ s.JournalMayWork ∧
      r.position = Position.complete k ∧ s.lineOf r.group k = some l ∧ s.completionSource r.group l.page = some m) ∧
    (∃ (s : State) (r : Record), s.journal.record = some r ∧ ¬s.JournalMayWork ∧ ¬s.RetryUnderWay RetryOwner.journal) ∧
    (∃ (s : State) (group : Nat) (k : Nat) (l : Line), s.lineOf group k = some l) ∧
    (∃ (s : State) (group : Nat) (k : Nat), s.lineOf group k = none) := by
  refine ⟨
      ⟨scanning testHeader, ?_⟩,
      ⟨scanning [], ?_⟩,
      ⟨{ nearlyFull with
        groups := groupsOf [group 5 .explicit .sealed] .none
        lines := [{ owner := 1, page := 700, bytes := List.replicate 64 (some 1#8) }, lineOf 5 700] },
       group 5 .explicit .sealed, 1, ?_⟩,
      ⟨{ running with
        control := { running.control with mode := some .holdup }
        groups := groupsOf [group 5 .explicit .sealed] .none
        lines := lineOf 5 701 :: (List.range 30).map fun k => lineOf 6 (900 + k) }, group 5 .explicit .sealed, 1, ?_⟩,
      ⟨{ full with journal := { running.journal with record := some (recordAt .header) } }, recordAt .header, ?_⟩,
      ⟨{ nearlyFull with
        lines := [lineOf 5 701]
        journal := { running.journal with record := some (recordAt (.complete 1)) } }, recordAt (.complete 1), 1,
       lineOf 5 701, ?_⟩,
      ⟨{ running with
        lines := [lineOf 1 700, lineOf 5 700]
        journal := { running.journal with record := some (recordAt (.complete 1)) } }, recordAt (.complete 1), 1,
       lineOf 5 700, lineOf 1 700, ?_⟩,
      ⟨{ full with
        lines := [lineOf 5 700]
        journal := { running.journal with record := some (recordAt (.program 1)) } }, recordAt (.program 1), 1,
       lineOf 5 700, ?_⟩,
      ⟨{ running with journal := { running.journal with record := some (recordAt .commit) } }, recordAt .commit, 0, ?_⟩,
      ⟨{ nearlyFull with
        lines := [{ owner := 1, page := 700, bytes := List.replicate 64 (some 1#8) }, lineOf 5 700]
        journal := { running.journal with record := some (recordAt (.complete 1)) }
        boot :=
          { running.boot with step := .replayRead 1, toReplay := [foundHeader 2 [700, 701] (some true)] } },
       recordAt (.complete 1), 1, lineOf 5 700, {
        owner := 1
        page := 700
        bytes := List.replicate 64 (some 1#8) }, ?_⟩,
      ⟨{ scanning [] with journal := { running.journal with record := some (recordAt (.program 1)) } },
       recordAt (.program 1), ?_⟩,
      ⟨nearlyFull, 1, 15, lineOf 1 914, ?_⟩,
      ⟨running, 2, 16, ?_⟩⟩
  all_goals
    repeat'
      first
      | decide +kernel
      | exact State.tableLaw_of_check (by decide +kernel)
      | (simp only [State.JournalMayWork, State.RetryUnderWay]; decide +kernel)

theorem test_witness_OldestDurableGroupIsAppliedHome :
    (∃ (s : State) (g : Group) (rest : List Group),
      (s.control.mode = some Mode.running ∨ s.control.mode = some Mode.draining) ∧ s.cursor = none ∧
      s.groups.table = g :: rest ∧ 1 ≤ s.lineCount g.sequence) ∧
    (∃ (s : State), s.control.mode = some Mode.halted ∨ s.control.mode = some Mode.holdup) ∧
    (∃ (s : State) (q : Request), s.GroupsLaw ∧ s.applyRequest = some q) ∧
    (∃ (s : State) (c : Cursor) (l : Line),
      (s.control.mode = some Mode.running ∨ s.control.mode = some Mode.draining ∨ s.RetryUnderWay RetryOwner.apply) ∧
      s.cursor = some c ∧ s.lineOf c.group c.line = some l) := by
  refine ⟨
      ⟨{ running with
        groups := groupsOf [group 5 .explicit .lost] (.lost (some 5))
        lines := (List.range 22).map fun k => lineOf 5 (900 + k) }, group 5 .explicit .lost, [], ?_⟩,
      ⟨{ running with control := { running.control with mode := some .halted } }, ?_⟩,
      ⟨full, { kind := OpKind.pageProgram, page := 931, data := (List.replicate 64 0xFF#8).set 3 7#8 }, ?_⟩,
      ⟨full, { group := 1, line := 32 }, lineOf 1 931, ?_⟩⟩
  all_goals
    repeat'
      first
      | decide +kernel
      | exact State.groupsLaw_of_check (by decide +kernel) (by decide) (by decide +kernel)
      | (left; decide)
      | refine And.intro ?_ ?_

theorem test_witness_RetireReleasesTheGroup :
    (∃ (s : State) (q : Nat) (n : Nat), s.lineCount q = n) := by
  refine
      ⟨full, 7, 0, ?_⟩
  all_goals decide +kernel

theorem test_witness_EmptyGroupRetiresAtItsTaking :
    (∃ (s : State) (g : Group) (rest : List Group), s.TableLaw ∧
      (s.control.mode = some Mode.running ∨ s.control.mode = some Mode.draining) ∧ s.cursor = none ∧
      s.groups.table = g :: rest ∧ g.state = GroupState.durable ∧ s.lineCount g.sequence = 0) := by
  refine
      ⟨{ running with groups := groupsOf [group 5 .explicit .durable] .none }, group 5 .explicit .durable, [], ?_⟩
  all_goals
    repeat'
      first
      | decide +kernel
      | exact State.tableLaw_of_check (by decide +kernel)
      | refine And.intro ?_ ?_

theorem test_witness_TransactionsTakeCommands :
    (∃ (s : State) (address : LinkAddress) (bytes : List Byte), s.acknowledges address = true ∧
      (bytes = [] ∨ s.link.taken ≠ none)) ∧
    (∃ (s : State) (address : LinkAddress) (bytes : List Byte) (mode : Mode), s.acknowledges address = true ∧
      bytes ≠ [] ∧ s.link.taken = none ∧ s.control.mode = some mode ∧ mode ≠ Mode.dozing) ∧
    (∃ (s : State) (address : LinkAddress) (c : Instr) (bytes : List Byte), s.acknowledges address = true ∧
      linkBytes c = some bytes ∧ s.link.taken = none ∧ s.control.mode = some Mode.dozing ∧
      (c = Instr.seal ∨ c = Instr.restart ∨ ∃ (fields : List Byte), c = Instr.store fields)) ∧
    (∃ (s : State) (address : LinkAddress) (c : Instr) (bytes : List Byte), s.acknowledges address = true ∧
      linkBytes c = some bytes ∧ s.link.taken = none ∧ s.control.mode = some Mode.dozing ∧ c ≠ Instr.seal ∧
      c ≠ Instr.restart ∧ ∀ (fields : List Byte), c ≠ Instr.store fields) ∧
    (∃ (s : State) (address : LinkAddress), s.acknowledges address = false) := by
  refine ⟨
      ⟨running, 0x2c#7, [], ?_⟩,
      ⟨full, 0x2c#7, testFields, Mode.running, ?_⟩,
      ⟨{ full with control := { running.control with mode := some .dozing } }, 0x2c#7, Instr.restart, [0x50#8], ?_⟩,
      ⟨{ running with control := { running.control with mode := some .dozing } }, 0x2c#7, Instr.clear 0x03#8
        0x00#8, [0x20#8, 0x03#8, 0x00#8], ?_⟩,
      ⟨running, 0x27#7, ?_⟩⟩
  all_goals
    repeat'
      first
      | decide +kernel
      | (intro fields h; cases h)
      | (right; left; rfl)
      | refine And.intro ?_ ?_

theorem test_witness_CommandsAreTurnedAway :
    (∃ (s : State) (mode : Mode) (c : Instr) (bytes : List Byte) (status : Status), linkBytes c = some bytes ∧
      s.AtDecision bytes mode ∧ turnedAway mode c = some status) ∧
    (∃ (s : State) (bytes : List Byte) (mode : Mode), bytes ≠ [] ∧ namesCommand bytes = false ∧
      s.AtDecision bytes mode) ∧
    (∃ (s : State) (c : Instr) (bytes : List Byte),
      (c = Instr.seal ∨ c = Instr.restart ∨ ∃ (fields : List Byte), c = Instr.store fields) ∧
      s.control.mode = some Mode.dozing ∧ linkBytes c = some bytes ∧ s.link.taken = none) := by
  refine ⟨
      ⟨full, Mode.running, Instr.resume, [0x40#8], Status.refusedMode, ?_⟩,
      ⟨nearlyFull, testFields.set 1 0xB0#8, Mode.running, ?_⟩,
      ⟨{ full with control := { running.control with mode := some .dozing } }, Instr.seal, [0x30#8], ?_⟩⟩
  all_goals
    repeat'
      first
      | decide +kernel
      | (left; decide)
      | refine And.intro ?_ ?_

theorem test_witness_CommandsReadAndClear :
    (∃ (s : State) (mode : Mode) (code : Nat),
      (mode, code) ∈ [(Mode.starting, 1), (Mode.bare, 2), (Mode.running, 3), (Mode.dozing, 4), (Mode.draining, 5),
          (Mode.halted, 6), (Mode.holdup, 7)] ∧ s.control.mode = some mode) ∧
    (∃ (s : State), s.control.fault = none) ∧
    (∃ (s : State) (f : FaultRecord) (kind : FaultKind) (code : Nat), s.control.fault = some f ∧
      (kind, code) ∈
        [(FaultKind.journalFail, 1), (FaultKind.applyFail, 2), (FaultKind.replayFail, 3),
          (FaultKind.arrayTimeout, 4)] ∧ f.kind = kind) ∧
    (∃ (s : State) (f : FaultRecord), s.control.fault = some f ∧ f.operation = OpKind.pageRead) ∧
    (∃ (s : State) (f : FaultRecord), s.control.fault = some f ∧ f.operation = OpKind.pageProgram) ∧
    (∃ (s : State) (bit : Nat) (set : Bool),
      (bit, set) ∈ [(0, s.link.flags.refused), (1, s.link.flags.lost), (2, s.link.flags.unserved),
          (3, s.link.flags.started), (4, s.link.flags.storeFailed), (5, s.link.flags.dropped),
          (6, s.inMode Mode.halted), (7, s.inMode Mode.bare)]) ∧
    (∃ (s : State) (power : PowerState) (code : Nat),
      (power, code) ∈ [(PowerState.off, 0), (PowerState.waking, 1), (PowerState.on, 2)] ∧ s.port.power = power) ∧
    (∃ (s : State) (offset : Nat) (width : Nat) (value : Nat),
      (offset, width, value) ∈ [(13, 1, s.groups.table.length), (14, 1, s.lines.length),
          (15, 1, s.outcomes.queue.length), (16, 2, s.config.length - s.journal.inUse),
          (18, 6, s.groups.nextSequence), (24, 6, s.journal.durable), (30, 6, s.journal.retired),
          (36, 4, s.link.counters.writesStaged), (40, 4, s.link.counters.writesRefused),
          (44, 4, s.link.counters.groupsDurable), (48, 4, s.link.counters.groupsLost),
          (52, 4, s.link.counters.readsUnserved), (56, 4, s.link.counters.programRetries),
          (60, 4, s.link.counters.stallExpiries), (64, 4, s.link.counters.earlyAccesses),
          (68, 4, s.link.counters.outcomesDropped)]) ∧
    (∃ (s : State) (r : StartUpRecord) (cause : Cause) (code : Nat), s.boot.record = some r ∧
      (cause, code) ∈
        [(Cause.powerOn, 1), (Cause.resetLine, 2), (Cause.supplyRecovery, 3), (Cause.restart, 4), (Cause.store, 5)] ∧
      r.cause = cause) ∧
    (∃ (s : State) (r : StartUpRecord) (copy : Copy) (code : Nat), s.boot.record = some r ∧
      (copy, code) ∈ [(Copy.none, 0), (Copy.a, 1), (Copy.b, 2)] ∧ r.copy = copy) ∧
    (∃ (s : State) (r : StartUpRecord) (offset : Nat) (width : Nat) (value : Nat), s.boot.record = some r ∧
      (offset, width, value) ∈ [(74, 4, r.generation), (78, 2, r.validHeaders), (80, 2, r.replayed),
          (82, 2, r.skipped), (84, 2, r.incomplete), (86, 2, r.programmed), (88, 6, r.cutOff)]) ∧
    (∃ (s : State) (r : StartUpRecord) (result : StoreResult) (code : Nat), s.boot.record = some r ∧
      (result, code) ∈
        [(StoreResult.none, 0), (StoreResult.stored, 1), (StoreResult.formatFailed, 2), (StoreResult.copyFailed, 3)] ∧
      r.storeResult = result) ∧
    (∃ (s : State) (mode : Mode), s.AtDecision [16#8] mode) ∧
    (∃ (s : State) (mode : Mode) (image : PageBytes), s.AtDecision [112#8] mode ∧ mode ≠ Mode.starting ∧
      s.boot.active = some image ∧ mode ≠ Mode.bare) ∧
    (∃ (s : State) (mode : Mode), s.AtDecision [112#8] mode ∧ mode ≠ Mode.starting ∧ s.boot.active = none) ∧
    (∃ (s : State) (flagMask : Byte) (countersOption : Byte) (mode : Mode),
      s.AtDecision [32#8, flagMask, countersOption] mode ∧ mode ≠ Mode.starting) := by
  refine ⟨
      ⟨full, Mode.running, 3, ?_⟩,
      ⟨scanning [], ?_⟩,
      ⟨{ running with
        control :=
          { running.control with
            fault :=
              some { kind := .applyFail, operation := .pageProgram, page := 16383, sequence := 2 ^ 48 - 1 } } },
       { kind := .applyFail, operation := .pageProgram, page := 16383, sequence := 2 ^ 48 - 1 }, .applyFail, 2, ?_⟩,
      ⟨{ running with
        control :=
          { running.control with
            fault :=
              some { kind := .arrayTimeout, operation := .pageRead, page := 16383, sequence := 2 ^ 48 - 1 } } },
       { kind := .arrayTimeout, operation := .pageRead, page := 16383, sequence := 2 ^ 48 - 1 }, ?_⟩,
      ⟨{ running with
        control :=
          { running.control with
            fault :=
              some { kind := .applyFail, operation := .pageProgram, page := 16383, sequence := 2 ^ 48 - 1 } } },
       { kind := .applyFail, operation := .pageProgram, page := 16383, sequence := 2 ^ 48 - 1 }, ?_⟩,
      ⟨running, 1, false, ?_⟩,
      ⟨full, PowerState.on, 2, ?_⟩,
      ⟨{ running with
        groups :=
          { groupsOf ((List.range 7).map fun k => group k .explicit .sealed) .none with nextSequence := 2 ^ 48 - 2 }
        lines := [lineOf 5 700, lineOf 5 701] }, 64, 4, 0, ?_⟩,
      ⟨scanning testHeader, .opened .powerOn .none, Cause.powerOn, 1, ?_⟩,
      ⟨running, .opened .powerOn .none, Copy.none, 0, ?_⟩,
      ⟨running, .opened .powerOn .none, 88, 6, 0, ?_⟩,
      ⟨running, .opened .powerOn .none, StoreResult.none, 0, ?_⟩,
      ⟨nearlyFull, Mode.running, ?_⟩,
      ⟨running, Mode.running, testImage, ?_⟩,
      ⟨{ nearlyFull with boot := { running.boot with active := none, step := .waking } }, Mode.running, ?_⟩,
      ⟨full, 0x88#8, 0x33#8, Mode.running, ?_⟩⟩
  all_goals
    repeat'
      first
      | decide +kernel
      | refine And.intro ?_ ?_

theorem test_witness_ResumeRetriesTheFailedOperation :
    (∃ (s : State), s.control.mode = some Mode.halted ∧ s.control.retrying = false ∧
      (s.link.taken = none ∨ s.link.taken = some { bytes := [64#8], mode := Mode.halted, retrying := false })) ∧
    (∃ (s : State), s.AtDecision [64#8] Mode.halted ∧
      (s.control.retrying = true ∨ s.link.taken = some { bytes := [64#8], mode := Mode.halted, retrying := true })) ∧
    (∃ (s : State) (op : Operation) (c : Instr), s.control.mode = some Mode.halted ∧ s.port.inFlight = some op ∧
      op.phase = OpPhase.transfer ∧
      (op.kind = OpKind.pageProgram ∧ c = Instr.programAttemptEnd false ∨ op.kind = OpKind.pageRead ∧ c =
         Instr.pageReadEnd) ∧ (op.requester = Requester.journal ∨ op.requester = Requester.apply)) ∧
    (∃ (s : State) (op : Operation) (c : Instr), s.control.mode = some Mode.halted ∧ s.port.inFlight = some op ∧
      op.phase = OpPhase.transfer ∧
      (op.kind = OpKind.pageProgram ∧ c = Instr.programAttemptEnd false ∨ op.kind = OpKind.pageRead ∧ c =
         Instr.pageReadEnd) ∧ op.requester = Requester.startUp) ∧
    (∃ (s : State) (op : Operation) (p : DeviceProgram) (c : Cursor), s.control.mode = some Mode.halted ∧
      s.port.inFlight = some op ∧ op.kind = OpKind.pageProgram ∧ op.phase = OpPhase.transfer ∧
      op.requester = Requester.apply ∧ s.port.suspended = none ∧ s.device.program = some p ∧ s.cursor = some c ∧
      c.line < s.lineCount c.group) ∧
    (∃ (s : State) (op : Operation), s.control.mode = some Mode.halted ∧ s.port.inFlight = some op ∧
      op.kind = OpKind.pageRead ∧ op.phase = OpPhase.transfer ∧ op.requester = Requester.startUp ∧
      s.port.suspended = none ∧ s.boot.step = BootStep.readCopyA) ∧
    (∃ (s : State) (op : Operation), s.control.mode = some Mode.halted ∧ s.port.inFlight = some op ∧
      (op.requester = Requester.journal ∨ op.requester = Requester.apply ∨ op.requester = Requester.startUp) ∧
      s.port.suspended = none ∧ s.port.opTimer.isRunning = true) ∧
    (∃ (s : State) (op : Operation), s.control.mode = some Mode.halted ∧
      (op.requester = Requester.journal ∨ op.requester = Requester.apply ∨ op.requester = Requester.startUp) ∧
      s.port.suspended = none) := by
  refine ⟨
      ⟨{ scanning testHeader with
        control := { running.control with mode := some .halted, retryOwner := some .apply } }, ?_⟩,
      ⟨{ scanning [] with
        link :=
          { Link.start 0x2C#7 with taken := some { bytes := [0x40#8], mode := .halted, retrying := true } } }, ?_⟩,
      ⟨{ full with
        control := { running.control with mode := some .halted, retrying := true, retryOwner := some .apply } },
       operation .apply .pageProgram .transfer 1, Instr.programAttemptEnd false, ?_⟩,
      ⟨{ scanning [] with
        control :=
          { running.control with mode := some .halted, retrying := true, retryOwner := some .journal } },
       operation .startUp .pageRead .transfer 0, Instr.pageReadEnd, ?_⟩,
      ⟨{ nearlyFull with
        control := { running.control with mode := some .halted }
        lines := (List.range 32).map fun k => lineOf 1 (900 + k) }, operation .apply .pageProgram .transfer 1,
       { page := 700, data := [], overrun := false }, { group := 1, line := 31 }, ?_⟩,
      ⟨{ scanning [] with
        control := { running.control with mode := some .halted, retrying := true, retryOwner := some .apply }
        boot := { running.boot with active := none, step := .readCopyA } }, operation .startUp .pageRead .transfer
        0, ?_⟩,
      ⟨{ nearlyFull with
        control :=
          { running.control with mode := some .halted, retrying := true, retryOwner := some .journal } },
       operation .apply .pageProgram .transfer 1, ?_⟩,
      ⟨{ nearlyFull with
        control := { running.control with mode := some .halted, retrying := true, retryOwner := some .apply } },
       operation .apply .pageProgram .transfer 1, ?_⟩⟩
  all_goals
    repeat'
      first
      | decide +kernel
      | refine And.intro ?_ ?_

theorem test_witness_RestartDrainsOrStartsUp :
    (∃ (s : State) (mode : Mode), (mode = Mode.bare ∨ mode = Mode.running) ∧ s.AtDecision [80#8] mode ∧
      (s.control.mode = some Mode.bare ∨ s.control.mode = some Mode.running)) ∧
    (∃ (s : State) (mode : Mode), (mode = Mode.bare ∨ mode = Mode.running) ∧ s.AtDecision [80#8] mode ∧
      (s.control.mode = some Mode.halted ∨ s.control.mode = some Mode.holdup)) ∧
    (∃ (s : State), s.AtDecision [80#8] Mode.halted) := by
  refine ⟨
      ⟨full, Mode.running, ?_⟩,
      ⟨{ nearlyFull with
        control := { running.control with mode := some .halted }
        link :=
          { Link.start 0x2C#7 with taken := some { bytes := [0x50#8], mode := .running, retrying := false } } },
       Mode.running, ?_⟩,
      ⟨{ running with
        control :=
          { running.control with mode := some .halted, retrying := true, retryOwner := some .startUp } }, ?_⟩⟩
  all_goals
    repeat'
      first
      | decide +kernel
      | refine And.intro ?_ ?_

theorem test_witness_StoreIsValidated :
    (∃ (s : State) (fields : List Byte) (mode : Mode), (mode = Mode.bare ∨ mode = Mode.running) ∧ fields.length = 49 ∧
      s.AtDecision (96#8 :: fields) mode ∧ ∃ (image : PageBytes), s.boot.active = some image ∧
      2 ^ 32 - 1 ≤ (Configuration.parse image).generation) ∧
    (∃ (s : State) (fields : List Byte) (mode : Mode) (k : Nat), (mode = Mode.bare ∨ mode = Mode.running) ∧
      fields.length = 49 ∧ s.AtDecision (96#8 :: fields) mode ∧
      (∀ (image : PageBytes), s.boot.active = some image → (Configuration.parse image).generation < 2 ^ 32 - 1) ∧
      k < 20 ∧ (parseStoreFields fields).fieldValid k = false ∧
      ∀ (j : Nat), j < k → (parseStoreFields fields).fieldValid j = true) ∧
    (∃ (s : State) (fields : List Byte) (mode : Mode) (image : PageBytes), (mode = Mode.bare ∨ mode = Mode.running) ∧
      fields.length = 49 ∧ s.AtDecision (96#8 :: fields) mode ∧
      (∀ (image : PageBytes), s.boot.active = some image → (Configuration.parse image).generation < 2 ^ 32 - 1) ∧
      (∀ (k : Nat), k < 20 → (parseStoreFields fields).fieldValid k = true) ∧ s.boot.active = some image ∧
      ((parseStoreFields fields).base ≠ (Configuration.parse image).base ∨ (parseStoreFields fields).length ≠
         (Configuration.parse image).length) ∧
      RegionsMeet (Configuration.parse image).base (Configuration.parse image).length (parseStoreFields fields).base
        (parseStoreFields fields).length) ∧
    (∃ (s : State) (fields : List Byte) (mode : Mode), (mode = Mode.bare ∨ mode = Mode.running) ∧ fields.length = 49 ∧
      s.AtDecision (96#8 :: fields) mode ∧
      (∀ (image : PageBytes), s.boot.active = some image → (Configuration.parse image).generation < 2 ^ 32 - 1) ∧
      (∀ (k : Nat), k < 20 → (parseStoreFields fields).fieldValid k = true) ∧
      (∀ (image : PageBytes), s.boot.active = some image → (parseStoreFields fields).base =
         (Configuration.parse image).base ∧ (parseStoreFields fields).length = (Configuration.parse image).length ∨
         ¬RegionsMeet (Configuration.parse image).base (Configuration.parse image).length
         (parseStoreFields fields).base (parseStoreFields fields).length) ∧
      (s.control.mode = some Mode.bare ∨ s.control.mode = some Mode.running)) ∧
    (∃ (s : State) (fields : List Byte) (mode : Mode), (mode = Mode.bare ∨ mode = Mode.running) ∧ fields.length = 49 ∧
      s.AtDecision (96#8 :: fields) mode ∧
      (∀ (image : PageBytes), s.boot.active = some image → (Configuration.parse image).generation < 2 ^ 32 - 1) ∧
      (∀ (k : Nat), k < 20 → (parseStoreFields fields).fieldValid k = true) ∧
      (∀ (image : PageBytes), s.boot.active = some image → (parseStoreFields fields).base =
         (Configuration.parse image).base ∧ (parseStoreFields fields).length = (Configuration.parse image).length ∨
         ¬RegionsMeet (Configuration.parse image).base (Configuration.parse image).length
         (parseStoreFields fields).base (parseStoreFields fields).length) ∧
      (s.control.mode = some Mode.halted ∨ s.control.mode = some Mode.holdup)) := by
  refine ⟨
      ⟨{ running with
        boot :=
          { running.boot with
            active := some (testImage.set 1 0xFF#8 |>.set 2 0xFF#8 |>.set 3 0xFF#8 |>.set 4 0xFF#8) } },
       [0x13#8, 0x88#8, 0x04#8, 0x01#8, 0x00#8, 0x04#8, 0x14#8, 0x00#8, 0x64#8, 0x00#8, 0x28#8, 0x14#8, 0x00#8,
        0x32#8, 0x00#8, 0x64#8, 0x97#8, 0xff#8, 0xff#8, 0x00#8, 0x00#8, 0xff#8, 0xff#8, 0x00#8, 0x00#8, 0xff#8,
        0xff#8, 0x00#8, 0x00#8, 0xff#8, 0xff#8, 0x00#8, 0x00#8, 0xff#8, 0xff#8, 0x00#8, 0x00#8, 0xff#8, 0xff#8,
        0x00#8, 0x00#8, 0xff#8, 0xff#8, 0x00#8, 0x00#8, 0xff#8, 0xff#8, 0x00#8, 0x00#8], Mode.running, ?_⟩,
      ⟨running, testFields.set 0 0x3F#8 |>.set 1 0xE8#8, Mode.running, 1, ?_⟩,
      ⟨running, testFields.set 1 0xB0#8, Mode.running, testImage, ?_⟩,
      ⟨running, testFields, Mode.running, ?_⟩,
      ⟨{ running with
        control := { running.control with mode := some .halted }
        link :=
          { Link.start 0x2C#7 with
            taken := some { bytes := 0x60#8 :: testFields, mode := .running, retrying := false } } }, testFields,
       .running, ?_⟩⟩
  all_goals
    repeat'
      first
      | decide +kernel
      | exact ⟨4016, by decide⟩
      | (intro image h; cases h; exact Or.inl (by decide))
      | refine And.intro ?_ ?_

theorem test_witness_DrainEndsAndTheStoreRuns :
    (∃ (s : State), s.groups.table ≠ [] ∨ s.pins.grp = false ∨ s.outcomes.queue ≠ []) ∧
    (∃ (s : State), s.control.mode = some Mode.draining ∧ s.groups.table = [] ∧ s.pins.grp = true ∧
      s.outcomes.queue = [] ∧ s.link.drain = Drain.restart) ∧
    (∃ (s : State) (fields : List Byte), s.control.mode = some Mode.draining ∧ s.groups.table = [] ∧
      s.pins.grp = true ∧ s.outcomes.queue = [] ∧ s.link.drain = Drain.store fields DrainPhase.drain ∧
      ∃ (image : PageBytes), s.boot.active = some image ∧
      (Configuration.parse image).base = (parseStoreFields fields).base ∧
      (Configuration.parse image).length = (parseStoreFields fields).length) ∧
    (∃ (s : State) (fields : List Byte), s.control.mode = some Mode.draining ∧ s.groups.table = [] ∧
      s.pins.grp = true ∧ s.outcomes.queue = [] ∧ s.link.drain = Drain.store fields DrainPhase.drain ∧
      ∀ (image : PageBytes), s.boot.active = some image → (Configuration.parse image).base ≠
        (parseStoreFields fields).base ∨ (Configuration.parse image).length ≠ (parseStoreFields fields).length) ∧
    (∃ (s : State) (fields : List Byte) (page : Nat), s.control.mode = some Mode.draining ∧
      s.link.drain = Drain.store fields (DrainPhase.format page)) ∧
    (∃ (s : State) (fields : List Byte) (image : PageBytes) (r : StartUpRecord), s.control.mode = some Mode.draining ∧
      s.link.drain = Drain.store fields DrainPhase.copy ∧ s.boot.active = some image ∧ s.boot.record = some r ∧
      r.copy ≠ Copy.none) ∧
    (∃ (s : State) (fields : List Byte) (r : StartUpRecord), s.control.mode = some Mode.draining ∧
      s.link.drain = Drain.store fields DrainPhase.copy ∧ s.boot.active = none ∧ s.boot.record = some r ∧
      r.copy = Copy.none) ∧
    (∃ (s : State) (op : Operation) (p : DeviceProgram) (fields : List Byte) (page : Nat),
      s.control.mode = some Mode.draining ∧ s.port.inFlight = some op ∧ op.kind = OpKind.pageProgram ∧
      op.phase = OpPhase.transfer ∧ op.requester = Requester.link ∧ s.port.suspended = none ∧
      s.device.program = some p ∧ s.link.drain = Drain.store fields (DrainPhase.format page)) ∧
    (∃ (s : State) (op : Operation) (p : DeviceProgram) (fields : List Byte), s.control.mode = some Mode.draining ∧
      s.port.inFlight = some op ∧ op.kind = OpKind.pageProgram ∧ op.phase = OpPhase.transfer ∧
      op.requester = Requester.link ∧ s.port.suspended = none ∧ s.device.program = some p ∧
      s.link.drain = Drain.store fields DrainPhase.copy) ∧
    (∃ (s : State) (op : Operation) (fields : List Byte) (page : Nat), s.control.mode = some Mode.draining ∧
      s.port.inFlight = some op ∧ op.requester = Requester.link ∧ s.port.opTimer.isRunning = true ∧
      s.link.drain = Drain.store fields (DrainPhase.format page)) ∧
    (∃ (s : State) (op : Operation) (fields : List Byte), s.control.mode = some Mode.draining ∧
      s.port.inFlight = some op ∧ op.requester = Requester.link ∧ s.port.opTimer.isRunning = true ∧
      s.link.drain = Drain.store fields DrainPhase.copy) ∧
    (∃ (s : State) (op : Operation) (fields : List Byte) (page : Nat), s.control.mode = some Mode.draining ∧
      op.requester = Requester.link ∧ s.link.drain = Drain.store fields (DrainPhase.format page)) ∧
    (∃ (s : State) (op : Operation) (fields : List Byte), s.control.mode = some Mode.draining ∧
      op.requester = Requester.link ∧ s.link.drain = Drain.store fields DrainPhase.copy) := by
  refine ⟨
      ⟨full, ?_⟩,
      ⟨{ scanning testHeader with
        control := { running.control with mode := some .draining }
        link := { Link.start 0x2C#7 with drain := .restart } }, ?_⟩,
      ⟨{ scanning [] with
        control := { running.control with mode := some .draining }
        link := { Link.start 0x2C#7 with drain := .store testFields .drain } }, testFields, ?_⟩,
      ⟨{ running with
        control := { running.control with mode := some .draining }
        link := { Link.start 0x2C#7 with drain := .store testFields .drain }
        boot := { running.boot with active := none, step := .readCopyA } }, testFields, ?_⟩,
      ⟨{ scanning [] with
        control := { running.control with mode := some .draining }
        link := { Link.start 0x2C#7 with drain := .store testFields (.format 4031) } }, testFields, 4031, ?_⟩,
      ⟨{ scanning [] with
        control := { running.control with mode := some .draining }
        link := { Link.start 0x2C#7 with drain := .store testFields .copy }
        boot := { running.boot with record := some { StartUpRecord.opened .powerOn .none with copy := .a } } },
       testFields, testImage,
       {
        cause := Cause.powerOn
        copy := Copy.a
        generation := 0
        validHeaders := 0
        replayed := 0
        skipped := 0
        incomplete := 0
        programmed := 0
        cutOff := 0
        storeResult := StoreResult.none }, ?_⟩,
      ⟨{ running with
        control := { running.control with mode := some .draining }
        link := { Link.start 0x2C#7 with drain := .store testFields .copy }
        boot := { running.boot with active := none, step := .readCopyB none } }, testFields, .opened .powerOn
        .none, ?_⟩,
      ⟨{ full with
        control := { running.control with mode := some .draining }
        port := busyPort (operation .link .pageProgram .transfer 1)
        link := { Link.start 0x2C#7 with drain := .store testFields (.format 4030) } },
       operation .link .pageProgram .transfer 1, { page := 700, data := [], overrun := false }, testFields, 4030, ?_⟩,
      ⟨{ full with
        control := { running.control with mode := some .draining }
        port := busyPort (operation .link .pageProgram .transfer 1)
        link := { Link.start 0x2C#7 with drain := .store testFields .copy } }, operation .link .pageProgram .transfer
        1, { page := 700, data := [], overrun := false }, testFields, ?_⟩,
      ⟨{ scanning testHeader with
        control := { running.control with mode := some .draining }
        port := busyPort (operation .link .pageProgram .start 2)
        link := { Link.start 0x2C#7 with drain := .store testFields (.format 4031) } },
       operation .link .pageProgram .start 2, testFields, 4031, ?_⟩,
      ⟨{ running with
        control := { running.control with mode := some .draining }
        port := busyPort (operation .link .pageRead .failed 1)
        link := { Link.start 0x2C#7 with drain := .store testFields .copy } }, operation .link .pageRead .failed
        1, testFields, ?_⟩,
      ⟨{ running with
        control := { running.control with mode := some .draining }
        port := busyPort (operation .link .pageProgram .start 3)
        link := { Link.start 0x2C#7 with drain := .store testFields (.format 4030) } },
       operation .link .pageProgram .start 3, testFields, 4030, ?_⟩,
      ⟨{ nearlyFull with
        control := { running.control with mode := some .draining }
        port := busyPort (operation .link .pageProgram .transfer 1)
        link := { Link.start 0x2C#7 with drain := .store testFields .copy } }, operation .link .pageProgram .transfer
        1, testFields, ?_⟩⟩
  all_goals decide +kernel

theorem test_witness_ConfigurationIsSelected :
    (∃ (s : State) (op : Operation), s.control.mode = some Mode.starting ∧ s.port.inFlight = some op ∧
      op.kind = OpKind.pageRead ∧ op.phase = OpPhase.transfer ∧ op.requester = Requester.startUp ∧
      s.port.suspended = none ∧ s.boot.step = BootStep.readCopyA) ∧
    (∃ (s : State) (op : Operation) (copyA : Option PageBytes) (r : StartUpRecord) (a : PageBytes),
      s.control.mode = some Mode.starting ∧ s.port.inFlight = some op ∧ op.kind = OpKind.pageRead ∧
      op.phase = OpPhase.transfer ∧ op.requester = Requester.startUp ∧ s.port.suspended = none ∧
      s.boot.step = BootStep.readCopyB copyA ∧ s.boot.record = some r ∧ copyA = some a ∧
      (s.device.isUndefined op.page = true ∨ validCopy (s.device.readPage op.page) = false ∨
         (Configuration.parse (s.device.readPage op.page)).generation ≤ (Configuration.parse a).generation)) ∧
    (∃ (s : State) (op : Operation) (copyA : Option PageBytes) (r : StartUpRecord),
      s.control.mode = some Mode.starting ∧ s.port.inFlight = some op ∧ op.kind = OpKind.pageRead ∧
      op.phase = OpPhase.transfer ∧ op.requester = Requester.startUp ∧ s.port.suspended = none ∧
      s.boot.step = BootStep.readCopyB copyA ∧ s.boot.record = some r ∧ s.device.isUndefined op.page = false ∧
      validCopy (s.device.readPage op.page) = true ∧
      ∀ (a : PageBytes), copyA = some a → (Configuration.parse a).generation <
        (Configuration.parse (s.device.readPage op.page)).generation) ∧
    (∃ (s : State) (op : Operation) (copyA : Option PageBytes) (r : StartUpRecord),
      s.control.mode = some Mode.starting ∧ s.port.inFlight = some op ∧ op.kind = OpKind.pageRead ∧
      op.phase = OpPhase.transfer ∧ op.requester = Requester.startUp ∧ s.port.suspended = none ∧
      s.boot.step = BootStep.readCopyB copyA ∧ s.boot.record = some r ∧ copyA = none ∧
      (s.device.isUndefined op.page = true ∨ validCopy (s.device.readPage op.page) = false)) := by
  refine ⟨
      ⟨{ scanning [] with boot := { running.boot with active := none, step := .readCopyA } },
       operation .startUp .pageRead .transfer 0, ?_⟩,
      ⟨{ scanning testHeader with
        boot := { running.boot with active := none, step := .readCopyB (some testImage) } },
       operation .startUp .pageRead .transfer 0, some testImage, .opened .powerOn .none, testImage, ?_⟩,
      ⟨{ scanning (composeCopy 8 5 testFields) with
        boot := { running.boot with active := none, step := .readCopyB (some testImage) } },
       operation .startUp .pageRead .transfer 0, some testImage, .opened .powerOn .none, ?_⟩,
      ⟨{ scanning testHeader with boot := { running.boot with active := none, step := .readCopyB none } },
       operation .startUp .pageRead .transfer 0, none, .opened .powerOn .none, ?_⟩⟩
  all_goals decide +kernel

theorem test_witness_StartUpEndsInRunning :
    (∃ (s : State) (r : StartUpRecord), s.boot.record = some r) ∧
    (∃ (s : State), s.boot.toReplay = []) := by
  refine ⟨
      ⟨full, .opened .powerOn .none, ?_⟩,
      ⟨running, ?_⟩⟩
  all_goals decide +kernel

end Sys2Proof.Tests
end

section
/-! PROOFS. The apply engine (spec/04_apply_and_retire.md): O45, which group is taken and what its lines request of the
array, and O47, the group with no lines. -/

namespace Sys2Proof.Machine.ApplyAndRetire

/-! ### An entry frees -/

/-- When a deferred group that was lost while it waited takes an entry, in the words of Safety.lean (R2, R4, R8). -/
theorem lostClaims_iff (s : State) :
    s.groups.current = .lost none ∧ s.sequenceExhausted = false ∧ s.entryFree = true ↔
      s.groups.current = .lost none ∧ s.groups.nextSequence < 2 ^ 48 - 1 ∧ s.groups.table.length < 8 := by
  simp only [State.sequenceExhausted, State.entryFree, decide_eq_false_iff_not, not_le, decide_eq_true_eq]
  rfl

/-- A freed entry in the words of Safety.lean: the group controller with the entry freed, and the reference of its
outcome dropped (R2, R24). -/
theorem freeEntry_eq_entryFreed (q : Nat) (s : State) :
    s.freeEntry q =
      { s with groups := s.groups.entryFreed q, outcomes := s.outcomes.dropReference (.group q) } := by
  rw [Groups.entryFreed]
  split
  next claims => exact if_pos ((lostClaims_iff _).mpr claims)
  next unclaimed => exact if_neg (mt (lostClaims_iff _).mp unclaimed)

/-- What state a group was in does not matter to the table without it. -/
theorem filter_other_setState (table : List Group) (q : Nat) (state : GroupState) :
    ((table.map fun g => if g.sequence = q then { g with state := state } else g).filter
      fun g => g.sequence != q) = table.filter fun g => g.sequence != q := by
  induction table with
  | nil => rfl
  | cons g rest ih => by_cases h : g.sequence = q <;> simp [h, ih]

/-- The oldest entry is alone in having its sequence (R4): the table without it is the rest. -/
theorem filter_other_head {g : Group} {rest : List Group} (h : (g :: rest).Pairwise Group.Before) :
    ((g :: rest).filter fun h => h.sequence != g.sequence) = rest := by
  have younger : ∀ h ∈ rest, g.sequence < h.sequence := (List.pairwise_cons.mp h).1
  have others : (rest.filter fun h => h.sequence != g.sequence) = rest :=
    List.filter_eq_self.mpr fun h hm => by simpa using (younger h hm).ne'
  simpa using others

/-- The group controller with its oldest entry freed: since the table holds at most 8 entries, there is room for the
deferred group that was lost while it waited (R2, R8, R17). -/
theorem entryFreed_oldest {s : State} {g : Group} {rest : List Group} (law : s.TableLaw)
    (ht : s.groups.table = g :: rest) (state : GroupState) :
    (s.setGroupState g.sequence state).groups.entryFreed g.sequence =
      if s.groups.current = .lost none ∧ s.groups.nextSequence < 2 ^ 48 - 1 then
        { s.groups with
          table := rest ++ [{ sequence := s.groups.nextSequence, kind := .explicit, state := .lost }]
          nextSequence := s.groups.nextSequence + 1
          current := .lost (some s.groups.nextSequence) }
      else { s.groups with table := rest } := by
  obtain ⟨hsize, horder, -, -⟩ := law
  rw [ht] at hsize horder
  have hroom : rest.length < 8 := Nat.lt_of_succ_le hsize
  simp only [Groups.entryFreed, State.setGroupState, filter_other_setState, ht, filter_other_head horder, hroom,
    and_true]

/-! ### A group with no lines retires -/

/-- A group with no lines frees none (R41). -/
theorem freeLines_of_noLines {s : State} {q : Nat} (h : s.lineCount q = 0) : s.freeLines q = s := by
  have none_owned : ∀ l ∈ s.lines, l.owner ≠ q := by
    simpa [State.lineCount, State.lineList, List.filter_eq_nil_iff] using h
  have kept : (s.lines.filter fun l => l.owner != q) = s.lines :=
    List.filter_eq_self.mpr fun l hl => by simpa using none_owned l hl
  rw [State.freeLines, kept]

/-- The retire of a group with no lines: neither line nor ring page is released (R53, R70). -/
theorem retire_of_noLines {s : State} {q : Nat} (h : s.lineCount q = 0) :
    s.retire q =
      { s with
        groups := s.groups.entryFreed q
        journal := { s.journal with retired := q }
        cursor := none
        outcomes := s.outcomes.dropReference (.group q) } := by
  rw [State.retire, freeLines_of_noLines h, h, freeEntry_eq_entryFreed]
  rfl

/-! ### What the apply engine takes -/

/-- The apply engine takes groups in RUNNING and DRAINING. -/
theorem applyStep_of_mode {s : State} (hm : s.control.mode = some .running ∨ s.control.mode = some .draining)
    (hc : s.cursor = none) :
    s.applyStep = s.oldestDurable.map fun g =>
      if s.lineCount g.sequence = 0 then (s.setGroupState g.sequence .applying).retire g.sequence
      else { s.setGroupState g.sequence .applying with cursor := some { group := g.sequence, line := 1 } } := by
  have works : (s.inMode .running || s.inMode .draining) = true := by simpa [State.inMode] using hm
  rw [State.applyStep, hc, works]
  cases s.oldestDurable with
  | none => rfl
  | some g => by_cases h : s.lineCount g.sequence = 0 <;> simp [h]

/-- The oldest entry counts for the apply engine while it is DURABLE (R65). -/
theorem oldestDurable_cons {s : State} {g : Group} {rest : List Group} (ht : s.groups.table = g :: rest) :
    s.oldestDurable = if g.state = .durable then some g else none := by
  rw [State.oldestDurable, ht]

/-- The oldest group, with lines, is taken once it is DURABLE (R64, R65). -/
theorem applyStep_of_lines {s : State} {g : Group} {rest : List Group}
    (hm : s.control.mode = some .running ∨ s.control.mode = some .draining) (hc : s.cursor = none)
    (ht : s.groups.table = g :: rest) (hl : 1 ≤ s.lineCount g.sequence) :
    s.applyStep =
      if g.state = .durable then
        some { s.setGroupState g.sequence .applying with cursor := some { group := g.sequence, line := 1 } }
      else none := by
  have hl' : s.lineCount g.sequence ≠ 0 := by omega
  rw [applyStep_of_mode hm hc, oldestDurable_cons ht]
  split <;> simp [hl']

/-- The oldest group, DURABLE and with no lines, retires as it is taken (R66). -/
theorem applyStep_of_noLines {s : State} {g : Group} {rest : List Group}
    (hm : s.control.mode = some .running ∨ s.control.mode = some .draining) (hc : s.cursor = none)
    (ht : s.groups.table = g :: rest) (hd : g.state = .durable) (hl : s.lineCount g.sequence = 0) :
    s.applyStep = some ((s.setGroupState g.sequence .applying).retire g.sequence) := by
  rw [applyStep_of_mode hm hc, oldestDurable_cons ht, if_pos hd, Option.map_some, if_pos hl]

/-- In HALTED and HOLDUP no group is taken (R65, R73, R74). -/
theorem applyStep_of_stopped {s : State} (hm : s.control.mode = some .halted ∨ s.control.mode = some .holdup) :
    s.applyStep = none := by
  rcases hm with hm | hm <;> simp [State.applyStep, State.inMode, hm]

/-! ### What the apply engine requests -/

/-- A line of a group's line list is a line in use, and the group owns it (R27). -/
theorem lineOf_owned {s : State} {q k : Nat} {l : Line} (h : s.lineOf q k = some l) : l ∈ s.lines ∧ l.owner = q := by
  have listed : l ∈ s.lineList q := List.mem_of_getElem? h
  simpa [State.lineList] using listed

/-- The apply engine requests the program of the cursor's line to its home page, with the line's 64 bytes, in RUNNING
and DRAINING and for a retry, and nothing else (R67, R73, R74). -/
theorem applyRequest_eq_some_iff {s : State} {q : Request} :
    s.applyRequest = some q ↔
      (s.control.mode = some .running ∨ s.control.mode = some .draining ∨ s.RetryUnderWay .apply) ∧
        ∃ c l, s.cursor = some c ∧ s.lineOf c.group c.line = some l ∧
          q = { kind := .pageProgram, page := l.page, data := l.image } := by
  have works : (s.inMode .running || s.inMode .draining || s.retries .apply) = true ↔
      s.control.mode = some .running ∨ s.control.mode = some .draining ∨ s.RetryUnderWay .apply := by
    simp [← State.retries_iff, State.inMode, or_assoc]
  rw [State.applyRequest, ← works]
  split
  next active =>
    cases hc : s.cursor with
    | none => simp
    | some c => cases hl : s.lineOf c.group c.line <;> simp [active, hl, Request.program, eq_comm]
  next passive => simp [passive]

/-- The apply engine requests nothing in DOWN (R137). -/
theorem mode_ne_down_of_applyRequest {s : State} {q : Request} (h : s.applyRequest = some q) :
    s.control.mode ≠ some .down := by
  obtain ⟨hm | hm | ⟨hm, -⟩, -⟩ := applyRequest_eq_some_iff.mp h <;> simp [hm]

/-- The apply engine's request is of a line of the APPLYING group, so of one that has become DURABLE (R35, R64, R69). -/
theorem applyRequest_of_applying {s : State} {q : Request} (law : s.GroupsLaw) (h : s.applyRequest = some q) :
    ∃ c l, s.cursor = some c ∧ s.HasGroup c.group .applying ∧ s.lineOf c.group c.line = some l ∧ l ∈ s.lines ∧
      l.owner = c.group ∧ q.kind = .pageProgram ∧ q.page = l.page ∧ q.data = l.image := by
  obtain ⟨-, -, outsideDown⟩ := law
  have applying := (outsideDown (mode_ne_down_of_applyRequest h)).cursor
  obtain ⟨-, c, l, hc, hl, rfl⟩ := applyRequest_eq_some_iff.mp h
  obtain ⟨inUse, owned⟩ := lineOf_owned hl
  exact ⟨c, l, hc, (applying c.group).mp ⟨c, hc, rfl⟩, hl, inUse, owned, rfl, rfl, rfl⟩

/-! ### The obligations -/

/-- Settles O45: the taking from the cases of `applyStep`, the request from what `applyRequest` is, and its group from
the law that ties the cursor to the APPLYING group. -/
theorem oldestDurableGroupIsAppliedHome : Obligations.OldestDurableGroupIsAppliedHome :=
  ⟨⟨fun _ _ _ hm hc ht hl => applyStep_of_lines hm hc ht hl, fun _ hm => applyStep_of_stopped hm⟩,
    fun _ _ law h => applyRequest_of_applying law h,
    fun _ c l hm hc hl => applyRequest_eq_some_iff.mpr ⟨hm, c, l, hc, hl, rfl⟩⟩

/-- Settles O47: the taking retires the group at once, and of that retire nothing is left but the entry, the youngest
retired sequence and the outcome's reference. -/
theorem emptyGroupRetiresAtItsTaking : Obligations.EmptyGroupRetiresAtItsTaking := by
  intro s g rest law hm hc ht hd hl
  have noLines : (s.setGroupState g.sequence .applying).lineCount g.sequence = 0 := hl
  rw [applyStep_of_noLines hm hc ht hd hl, retire_of_noLines noLines, entryFreed_oldest law ht, ← hc]
  rfl

end Sys2Proof.Machine.ApplyAndRetire
end

section
/-! PROOFS. RESTART and the drain (spec/10_the_maintenance_link.md): O53, what a RESTART does by the mode in which it is
decided, and O55, how a drain ends and how the format and the copy of a STORE run. -/

namespace Sys2Proof.Machine.RestartAndStore

/-! ### A start-up begins -/

/-- A start-up takes nothing over from the link unit, and from the array controller APWR alone (R77, R109). -/
theorem beginStartUp_begins_of_link_port (cause : Cause) (result : StoreResult) (s : State) (link : Link) {port : Port}
    (ha : port.apwr = s.port.apwr) :
    State.BeginsStartUp cause result s (State.beginStartUp cause result { s with link := link, port := port }) :=
  have begins := State.beginStartUp_begins cause result { s with link := link, port := port }
  { begins with array := ha ▸ begins.array }

/-- Nothing follows at once from a start-up that has just begun (R80, R81). -/
theorem rest_of_beginsStartUp {cause : Cause} {result : StoreResult} {s t : State}
    (begins : State.BeginsStartUp cause result s t) : t.micro = none :=
  State.rest_of_starting (by rw [begins.control]) (by rw [begins.array]; simp) (by rw [begins.array]; rfl)

/-! ### The decision of a command -/

/-- The taking of a command outside DOZING: no wake comes with it, and its end is an activity event (R141, R161). -/
theorem takeCommand_of_mode {s : State} {bytes : List Byte} {mode : Mode} (hm : s.control.mode = some mode)
    (hd : mode ≠ .dozing) :
    s.takeCommand bytes =
      { s with
        link :=
          { s.link with
            taken := some { bytes := bytes, mode := mode, retrying := s.control.retrying }
            response := { status := .pending, data := [] } }
        monitor := s.activeMonitor } := by
  have noWake : s.wakeFor bytes = s := by
    have : s.inMode .dozing = false := by simp [State.inMode, hm, hd]
    rw [State.wakeFor]
    cases commandOf bytes <;> simp [this]
  simp only [State.takeCommand, noWake, hm, State.activity_eq]
  rfl

/-- The command to be decided stands as it was taken, and the decision counts for the doze idle timer as the end of its
transaction does (R161, log 11). -/
theorem beginDecision_of_atDecision {s : State} {bytes : List Byte} {mode : Mode} (due : s.AtDecision bytes mode)
    (hd : mode ≠ .dozing) :
    ∃ taken response, taken.bytes = bytes ∧ taken.mode = mode ∧
      s.beginDecision bytes =
        some
          { s with
            link := { s.link with taken := some taken, response := response }
            monitor := s.decisionMonitor } := by
  obtain ⟨awake, ⟨untaken, hm⟩ | ⟨retrying, ht⟩⟩ := due
  · refine ⟨{ bytes := bytes, mode := mode, retrying := s.control.retrying }, { status := .pending, data := [] },
      rfl, rfl, ?_⟩
    simp [State.beginDecision, awake, untaken, takeCommand_of_mode hm hd, State.decisionMonitor]
  · refine ⟨{ bytes := bytes, mode := mode, retrying := retrying }, s.link.response, rfl, rfl, ?_⟩
    have same : { s.link with taken := some { bytes := bytes, mode := mode, retrying := retrying } } = s.link := by
      rw [← ht]
    simp [State.beginDecision, awake, ht, State.decisionMonitor, same]

/-- A command that R162 lets pass is carried out by its own rule (R161, R162). -/
theorem decide_of_served {s : State} {bytes : List Byte} {mode : Mode} {c : LinkCommand}
    (serve : Taken → State → State) (due : s.AtDecision bytes mode) (hd : mode ≠ .dozing)
    (hc : commandOf bytes = some c) (ha : accepts c mode = .served) :
    ∃ taken response, taken.mode = mode ∧
      s.decide bytes serve =
        some
          (serve taken
            { s with
              link := { s.link with taken := some taken, response := response }
              monitor := s.decisionMonitor }) := by
  obtain ⟨taken, response, -, rfl, begun⟩ := beginDecision_of_atDecision due hd
  exact ⟨taken, response, rfl, by simp [State.decide, begun, hc, ha]⟩

/-- The part with its command answered DONE and nothing else done yet (R161). -/
def answeredDone (s : State) : State :=
  { s with link := s.link.answered .done [], monitor := s.decisionMonitor }

/-- A decision outside RUNNING, or of a command taken before, leaves the power monitor as it is (R141). -/
theorem answeredDone_of_inactive {s : State} (h : s.link.taken = none → s.control.mode ≠ some .running) :
    answeredDone s = { s with link := s.link.answered .done [] } := by
  have quiet : s.decisionMonitor = s.monitor := by
    rw [State.decisionMonitor, State.activeMonitor]
    split
    next untaken => exact if_neg fun active => h untaken active.1
    next => rfl
  rw [answeredDone, quiet]

/-- Whether a decision starts the doze idle timer does not matter where the timer stops next. -/
theorem answeredDone_dozeIdle (s : State) (t : Timer) :
    { (answeredDone s).monitor with dozeIdle := t } = { s.monitor with dozeIdle := t } := by
  change { s.decisionMonitor with dozeIdle := t } = _
  rw [State.decisionMonitor, State.activeMonitor]
  split_ifs <;> rfl

/-! ### The beginning of a drain -/

/-- In BARE and RUNNING a drain begins: DRAINING, the seal asked for, the doze idle timer stopped (R170, R172). -/
theorem beginDrain_of_mode {s : State} (drain : Drain)
    (hm : s.control.mode = some .bare ∨ s.control.mode = some .running) :
    s.beginDrain drain =
      { s with
        control := { s.control with mode := some .draining }
        groups := s.sealRequested
        link := { s.link with drain := drain }
        monitor := { s.monitor with dozeIdle := .stopped } } := by
  have begins : (s.inMode .bare || s.inMode .running) = true := by simpa [State.inMode] using hm
  rw [State.beginDrain, if_pos begins, State.enterDraining, State.requestSeal_eq]
  rfl

/-- In HALTED and HOLDUP no drain begins (R135, R149, log 41). -/
theorem beginDrain_of_stopped {s : State} (drain : Drain)
    (hm : s.control.mode = some .halted ∨ s.control.mode = some .holdup) : s.beginDrain drain = s := by
  rcases hm with hm | hm <;> simp [State.beginDrain, State.inMode, hm]

/-! ### RESTART -/

/-- RESTART is answered DONE; taken in HALTED it begins a start-up, else the drain (R157, R162, R170). -/
theorem onRestart_of_served {s : State} {mode : Mode} (due : s.AtDecision [0x50#8] mode) (hd : mode ≠ .dozing)
    (served : accepts .restart mode = .served) :
    s.onRestart =
      some
        (if mode = .halted then (answeredDone s).beginStartUp .restart .none
        else (answeredDone s).beginDrain .restart) := by
  obtain ⟨taken, response, rfl, decided⟩ :=
    decide_of_served State.serveRestart due hd (by decide : commandOf [0x50#8] = some .restart) served
  rw [State.onRestart, decided]
  rfl

/-- RESTART taken in BARE and RUNNING is answered DONE, and begins the drain where one may still begin (R170). -/
theorem onRestart_of_drain {s : State} {mode : Mode} (hmode : mode = .bare ∨ mode = .running)
    (due : s.AtDecision [0x50#8] mode) : s.onRestart = some ((answeredDone s).beginDrain .restart) := by
  rcases hmode with rfl | rfl <;> exact onRestart_of_served due (by decide) rfl

/-- RESTART decided in BARE and RUNNING drains (R170, R172). -/
theorem restart_drains {s : State} {mode : Mode} (hmode : mode = .bare ∨ mode = .running)
    (due : s.AtDecision [0x50#8] mode) (hm : s.control.mode = some .bare ∨ s.control.mode = some .running) :
    Completes .restart s
      { s with
        control := { s.control with mode := some .draining }
        groups := s.sealRequested
        link := { s.link.answered .done [] with drain := .restart }
        monitor := { s.monitor with dozeIdle := .stopped } } := by
  refine Completes.of_effect rfl ((onRestart_of_drain hmode due).trans (congrArg some ?_))
  rw [beginDrain_of_mode (s := answeredDone s) .restart hm, answeredDone_dozeIdle]
  rfl

/-- RESTART taken in BARE and RUNNING but decided in HALTED and HOLDUP is answered, no more (R135, R149, log 41). -/
theorem restart_answered {s : State} {mode : Mode} (hmode : mode = .bare ∨ mode = .running)
    (due : s.AtDecision [0x50#8] mode) (hm : s.control.mode = some .halted ∨ s.control.mode = some .holdup) :
    Completes .restart s { s with link := s.link.answered .done [] } := by
  refine Completes.of_effect rfl ((onRestart_of_drain hmode due).trans (congrArg some ?_))
  rw [beginDrain_of_stopped (s := answeredDone s) .restart hm]
  exact answeredDone_of_inactive fun _ => by rcases hm with hm | hm <;> simp [hm]

/-- RESTART taken in HALTED begins a start-up at once, with the part as it is but for the answer (R157, R170). -/
theorem restart_startsUp {s : State} (due : s.AtDecision [0x50#8] .halted) :
    ∃ t, exec .restart s = .next t ∧ State.BeginsStartUp .restart .none s t := by
  have quiet : answeredDone s = { s with link := s.link.answered .done [] } := by
    obtain ⟨-, ⟨-, hm⟩ | ⟨retrying, ht⟩⟩ := due
    · exact answeredDone_of_inactive fun _ => by simp [hm]
    · exact answeredDone_of_inactive fun untaken => by simp [ht] at untaken
  have effect := onRestart_of_served due (by decide) rfl
  rw [if_pos rfl, quiet] at effect
  exact ⟨_, exec_of_effect_rest rfl effect (State.beginStartUp_rest _ _ _),
    beginStartUp_begins_of_link_port .restart .none s _ rfl⟩

/-- Settles O53: the decision serves the RESTART by the mode of its taking, and the drain begins by the mode of the
moment. -/
theorem restartDrainsOrStartsUp : Obligations.RestartDrainsOrStartsUp :=
  ⟨fun _ _ hmode due => ⟨restart_drains hmode due, restart_answered hmode due⟩, fun _ due => restart_startsUp due⟩

/-! ### The end of a drain -/

/-- A drain ends in DRAINING with the table and the outcome queue empty and GRP# high (R173). -/
theorem drained_iff (s : State) :
    s.drained = true ↔
      s.control.mode = some .draining ∧ s.groups.table = [] ∧ s.pins.grp = true ∧ s.outcomes.queue = [] := by
  simp [State.drained, State.inMode, and_assoc]

/-- A STORE keeps the region if its base and length are those of the active configuration (R171). -/
theorem sameRegion_iff (s : State) (fields : List Byte) :
    s.sameRegion fields = true ↔
      ∃ image, s.boot.active = some image ∧
        (Configuration.parse image).base = (parseStoreFields fields).base ∧
        (Configuration.parse image).length = (parseStoreFields fields).length := by
  rw [State.sameRegion]
  cases s.boot.active <;> simp

/-- Until then nothing of a drain ends (R173). -/
theorem drainStep_of_pending {s : State}
    (h : s.groups.table ≠ [] ∨ s.pins.grp = false ∨ s.outcomes.queue ≠ []) : s.drainStep = none := by
  refine if_neg fun ended => ?_
  obtain ⟨-, ht, hg, hq⟩ := (drained_iff s).mp ended
  simp [ht, hg, hq] at h

/-- The end of the drain of a RESTART begins the start-up (R173). -/
theorem drainStep_of_restart {s : State} (ended : s.drained = true) (hd : s.link.drain = .restart) :
    s.drainStep = some (s.beginStartUp .restart .none) := by
  rw [State.drainStep, if_pos ended, hd]

/-- The end of the drain of a STORE is followed by the copy, if the region stays, else by the format (R173, R175). -/
theorem drainStep_of_store {s : State} {fields : List Byte} (ended : s.drained = true)
    (hd : s.link.drain = .store fields .drain) :
    s.drainStep =
      some
        (if s.sameRegion fields then { s with link := { s.link with drain := .store fields .copy } }
        else
          { s with
            upstream := { s.upstream with buffer := none }
            link := { s.link with drain := .store fields (.format (parseStoreFields fields).base) } }) := by
  cases h : s.sameRegion fields <;> simp [State.drainStep, ended, hd, h, State.withDrain]

/-! ### What the link unit requests of the array -/

/-- In the format the next page is programmed with zeros (R175). -/
theorem linkRequest_of_format {s : State} {fields : List Byte} {page : Nat} (hm : s.control.mode = some .draining)
    (hd : s.link.drain = .store fields (.format page)) :
    s.linkRequest = some (.program page (List.replicate 64 0#8)) := by
  simp [State.linkRequest, State.inMode, hm, hd, Config.pageSize]

/-- In the copy the new copy is programmed into its slot (R176). -/
theorem linkRequest_of_copy {s : State} {fields : List Byte} (hm : s.control.mode = some .draining)
    (hd : s.link.drain = .store fields .copy) :
    s.linkRequest = some (.program s.copySlot (composeCopy s.nextGeneration s.nextFloor fields)) := by
  simp [State.linkRequest, State.inMode, hm, hd, State.newCopy]

/-- The slot of the new copy is the one that the active copy is not in; without one, that of copy A (R176). -/
theorem copySlot_of_record {s : State} {r : StartUpRecord} (hr : s.boot.record = some r) :
    s.copySlot = if r.copy = .a then 16383 else 16382 := by
  rw [State.copySlot, hr]
  cases h : r.copy <;> simp [h, Config.copyAPage, Config.copyBPage]

/-- The new copy's generation and floor follow the active configuration's generation and the next sequence (R176). -/
theorem newCopy_of_active {s : State} {image : PageBytes} (ha : s.boot.active = some image) :
    s.nextGeneration = (Configuration.parse image).generation + 1 ∧
      s.nextFloor = min s.groups.nextSequence (2 ^ 48 - 2) := by
  rw [State.nextGeneration, State.nextFloor, ha]
  exact ⟨rfl, rfl⟩

/-- From BARE the new copy's generation and floor are 1 (R176). -/
theorem newCopy_of_none {s : State} (ha : s.boot.active = none) : s.nextGeneration = 1 ∧ s.nextFloor = 1 := by
  rw [State.nextGeneration, State.nextFloor, ha]
  exact ⟨rfl, rfl⟩

/-! ### The end of a program of the store -/

/-- Whether the operation has passed (R98). -/
def hasPassed : OperationResult → Bool
  | .pass _ => true
  | .fail => false
  | .timeout => false

/-- The part once the operation in flight is over, with a program suspended for a read taken up again (R98, R104). -/
def operationOver (s : State) : State :=
  { s with port := { s.port with inFlight := s.port.suspended, suspended := none, opTimer := .stopped } }

/-- In DRAINING the end of an operation of the link unit frees the array and goes to the store procedure, a timeout as
a failure (R148, R159). -/
theorem endOperation_of_link {s : State} {op : Operation} (result : OperationResult)
    (hm : s.control.mode = some .draining) (hr : op.requester = .link) :
    s.endOperation op result = (operationOver s).storeProgramEnded (hasPassed result) := by
  have inactive : ¬ (some Mode.draining == some Mode.running) = true := by decide
  rw [State.endOperation, State.activity, State.inMode, hm, if_neg inactive]
  cases result <;> simp [State.handOver, hr, hasPassed, operationOver]

/-- A format program that has passed is followed by the next page's, and the last by the copy (R175). -/
theorem storeProgramEnded_of_format {s : State} {fields : List Byte} {page : Nat}
    (hd : s.link.drain = .store fields (.format page)) :
    s.storeProgramEnded true =
      { s with
        link :=
          { s.link with
            drain :=
              if page + 1 < (parseStoreFields fields).base + (parseStoreFields fields).length then
                .store fields (.format (page + 1))
              else .store fields .copy } } := by
  by_cases more : page + 1 < (parseStoreFields fields).base + (parseStoreFields fields).length <;>
    simp [State.storeProgramEnded, hd, more, State.withDrain]

/-- A format program that has failed begins the start-up with FORMAT FAILED (R175, R159). -/
theorem storeProgramEnded_of_failedFormat {s : State} {fields : List Byte} {page : Nat}
    (hd : s.link.drain = .store fields (.format page)) :
    s.storeProgramEnded false = s.beginStartUp .store .formatFailed := by
  rw [State.storeProgramEnded, hd]
  rfl

/-- The copy program begins the start-up in either case (R177). -/
theorem storeProgramEnded_of_copy {s : State} {fields : List Byte} (passed : Bool)
    (hd : s.link.drain = .store fields .copy) :
    s.storeProgramEnded passed = s.beginStartUp .store (if passed then .stored else .copyFailed) := by
  rw [State.storeProgramEnded, hd]

/-- The end of the copy program begins the start-up, which carries how it ended (R176, R177). -/
theorem endOperation_begins_of_copy {s : State} {op : Operation} {fields : List Byte} (result : OperationResult)
    (hm : s.control.mode = some .draining) (hr : op.requester = .link) (hd : s.link.drain = .store fields .copy) :
    State.BeginsStartUp .store (if hasPassed result then .stored else .copyFailed) s (s.endOperation op result) := by
  rw [endOperation_of_link result hm hr, storeProgramEnded_of_copy (s := operationOver s) _ hd]
  exact beginStartUp_begins_of_link_port .store _ s s.link rfl

/-- The failure of a format program begins the start-up, which carries it (R159, R175). -/
theorem endOperation_begins_of_format {s : State} {op : Operation} {fields : List Byte} {page : Nat}
    {result : OperationResult} (failed : hasPassed result = false) (hm : s.control.mode = some .draining)
    (hr : op.requester = .link) (hd : s.link.drain = .store fields (.format page)) :
    State.BeginsStartUp .store .formatFailed s (s.endOperation op result) := by
  rw [endOperation_of_link result hm hr, failed, storeProgramEnded_of_failedFormat (s := operationOver s) hd]
  exact beginStartUp_begins_of_link_port .store _ s s.link rfl

/-! ### The commands that end a program of the store -/

/-- The state in which the device has just ended its program differs in the device and the free values alone (R97). -/
theorem endDeviceProgram_eq (failed : Bool) (s : State) :
    s.endDeviceProgram failed =
      { s with
        device := (s.endDeviceProgram failed).device
        freeCount := (s.endDeviceProgram failed).freeCount } := by
  rw [State.endDeviceProgram]
  (repeat' split) <;> rfl

/-- The end of a program in the device is one of the device and the count of free values alone. -/
theorem endsDeviceProgram_congr {failed : Bool} {p : DeviceProgram} {s t t' : State}
    (ends : s.EndsDeviceProgram failed p t) (hd : t'.device = t.device) (hf : t'.freeCount = t.freeCount) :
    s.EndsDeviceProgram failed p t' := by
  constructor
  · rw [hd]; exact ends.bytes
  · rw [hd]; exact ends.undefined
  · rw [hd]; exact ends.fail
  · rw [hf]; exact ends.counted

/-- PROGRAM_ATTEMPT_END of an attempt that has passed: the program ends in the device, and the operation with it
(R102). -/
theorem onProgramAttemptEnd_of_passed {s : State} {op : Operation} (hi : s.port.inFlight = some op)
    (hk : op.kind = .pageProgram) (hp : op.phase = .transfer) :
    s.onProgramAttemptEnd false = some ((s.endDeviceProgram false).endOperation op (.pass [])) := by
  simp only [State.onProgramAttemptEnd, hi, hk, hp, and_self, if_true]
  rfl

/-- OPERATION_TIMER_EXPIRY: the operation ends with ARRAY_TIMEOUT, and what its program leaves is unknown (R102). -/
theorem onOperationTimerExpiry_of_running {s : State} {op : Operation} (hi : s.port.inFlight = some op)
    (ht : s.port.opTimer.isRunning = true) :
    s.onOperationTimerExpiry =
      some (State.endOperation op .timeout { s with device := s.deviceAfterTimeout op }) := by
  rw [State.onOperationTimerExpiry, if_pos ht, hi, ← State.overrun_eq]

section ProgramPassed

variable {s : State} {op : Operation} {p : DeviceProgram} {fields : List Byte}
  (hm : s.control.mode = some .draining) (hi : s.port.inFlight = some op) (hk : op.kind = .pageProgram)
  (hp : op.phase = .transfer) (hr : op.requester = .link) (hprog : s.device.program = some p)

include hm hi hk hp hr hprog

/-- A format program that has passed: the page holds zeros, and the format goes on (R175). -/
theorem programAttemptEnd_of_format {page : Nat} (hs : s.port.suspended = none)
    (hd : s.link.drain = .store fields (.format page)) :
    ∃ t, Completes (.programAttemptEnd false) s t ∧ s.EndsDeviceProgram false p t ∧
      t = { s with
            device := t.device, freeCount := t.freeCount
            port := { s.port with inFlight := none, opTimer := .stopped }
            link :=
              { s.link with
                drain :=
                  if page + 1 < (parseStoreFields fields).base + (parseStoreFields fields).length then
                    .store fields (.format (page + 1))
                  else .store fields .copy } } := by
  have ends := State.endDeviceProgram_ends false s p hprog
  have effect := onProgramAttemptEnd_of_passed hi hk hp
  rw [endOperation_of_link _ (by simpa using hm) hr, hasPassed,
    storeProgramEnded_of_format (s := operationOver (s.endDeviceProgram false)) (by simpa [operationOver] using hd)]
    at effect
  refine ⟨_, Completes.of_effect rfl effect, endsDeviceProgram_congr ends rfl rfl, ?_⟩
  simp [operationOver, hs]

/-- The copy program has passed: the slot holds the new copy, and the start-up begins with STORED (R176, R177). -/
theorem programAttemptEnd_of_copy (hd : s.link.drain = .store fields .copy) :
    ∃ t, exec (.programAttemptEnd false) s = .next t ∧ s.EndsDeviceProgram false p t ∧
      State.BeginsStartUp .store .stored { s with device := t.device, freeCount := t.freeCount } t := by
  have ends := State.endDeviceProgram_ends false s p hprog
  have begins : State.BeginsStartUp .store .stored (s.endDeviceProgram false) _ :=
    endOperation_begins_of_copy (.pass []) (by simpa using hm) hr (by simpa using hd)
  obtain ⟨-, device, freeCount, -⟩ := begins.frame
  refine ⟨_, exec_of_effect_rest rfl (onProgramAttemptEnd_of_passed hi hk hp) (rest_of_beginsStartUp begins),
    endsDeviceProgram_congr ends device freeCount, ?_⟩
  rw [device, freeCount, ← endDeviceProgram_eq]
  exact begins

end ProgramPassed

/-- A command that ends an operation with ARRAY_TIMEOUT answers with the start-up that the failure begins (R102). -/
theorem operationTimerExpiry_begins {s : State} {op : Operation} {result : StoreResult}
    (hi : s.port.inFlight = some op) (ht : s.port.opTimer.isRunning = true)
    (begins : State.BeginsStartUp .store result { s with device := s.deviceAfterTimeout op }
      (State.endOperation op .timeout { s with device := s.deviceAfterTimeout op })) :
    ∃ t, exec .operationTimerExpiry s = .next t ∧
      State.BeginsStartUp .store result { s with device := s.deviceAfterTimeout op } t :=
  ⟨_, exec_of_effect_rest rfl (onOperationTimerExpiry_of_running hi ht) (rest_of_beginsStartUp begins), begins⟩

/-! ### The drain and the STORE -/

/-- R173: what follows the end of a drain, by its kind. -/
theorem drain_ends {s : State} (hm : s.control.mode = some .draining) (ht : s.groups.table = [])
    (hg : s.pins.grp = true) (hq : s.outcomes.queue = []) :
    (s.link.drain = .restart → ∃ t, s.drainStep = some t ∧ State.BeginsStartUp .restart .none s t) ∧
    (∀ fields, s.link.drain = .store fields .drain →
      ((∃ image, s.boot.active = some image ∧
          (Configuration.parse image).base = (parseStoreFields fields).base ∧
          (Configuration.parse image).length = (parseStoreFields fields).length) →
        s.drainStep = some { s with link := { s.link with drain := .store fields .copy } }) ∧
      ((∀ image, s.boot.active = some image →
          (Configuration.parse image).base ≠ (parseStoreFields fields).base ∨
            (Configuration.parse image).length ≠ (parseStoreFields fields).length) →
        s.drainStep =
          some
            { s with
              upstream := { s.upstream with buffer := none }
              link :=
                { s.link with drain := .store fields (.format (parseStoreFields fields).base) } })) := by
  have ended : s.drained = true := (drained_iff s).mpr ⟨hm, ht, hg, hq⟩
  refine ⟨fun hd => ⟨_, drainStep_of_restart ended hd, State.beginStartUp_begins .restart .none s⟩,
    fun fields hd => ⟨fun kept => ?_, fun moved => ?_⟩⟩
  · rw [drainStep_of_store ended hd, if_pos ((sameRegion_iff s fields).mpr kept)]
  · have differs : ¬ s.sameRegion fields = true := fun same => by
      obtain ⟨image, active, base, length⟩ := (sameRegion_iff s fields).mp same
      exact (moved image active).elim (· base) (· length)
    rw [drainStep_of_store ended hd, if_neg differs]

/-- Settles O55: the end of the drain, the requests of the format and the copy, and the three ways in which one of their
programs ends. -/
theorem drainEndsAndTheStoreRuns : Obligations.DrainEndsAndTheStoreRuns := by
  refine ⟨fun _ => drainStep_of_pending, fun _ => drain_ends, fun s fields hm => ⟨?_, ?_, ?_⟩,
    fun s op p fields hm hi hk hp hr hs hprog => ⟨?_, ?_⟩, fun s op fields hm hi hr ht => ⟨?_, ?_⟩,
    fun s op fields hm hr => ⟨?_, ?_⟩⟩
  · exact fun _ => linkRequest_of_format hm
  · intro image r hd active hrecord _
    obtain ⟨generation, floor⟩ := newCopy_of_active active
    rw [linkRequest_of_copy hm hd, copySlot_of_record hrecord, generation, floor]
  · intro r hd inactive hrecord hcopy
    obtain ⟨generation, floor⟩ := newCopy_of_none inactive
    rw [linkRequest_of_copy hm hd, copySlot_of_record hrecord, hcopy, generation, floor]
    rfl
  · exact fun _ => programAttemptEnd_of_format hm hi hk hp hr hprog hs
  · exact programAttemptEnd_of_copy hm hi hk hp hr hprog
  · exact fun _ hd => operationTimerExpiry_begins hi ht (endOperation_begins_of_format rfl hm hr hd)
  · exact fun hd => operationTimerExpiry_begins hi ht (endOperation_begins_of_copy .timeout hm hr hd)
  · exact fun _ => endOperation_begins_of_format rfl hm hr
  · exact endOperation_begins_of_copy .fail hm hr

end Sys2Proof.Machine.RestartAndStore
end
